-- ==== Sys2Proof/Word.lean ====
section
/-! DEFINITION. The two word types of WC8080 (`00_scope.md` R7). -/

namespace Sys2Proof

/-- An 8-bit value. -/
abbrev Byte := BitVec 8

/-- A 16-bit value: an address, a register pair, PC or SP. -/
abbrev Word := BitVec 16

end Sys2Proof
end

