-- ==== Sys2Proof/Machine/Bits.lean ====
section
/-! DEFINITION. Byte order and bit fields: how bytes make a word and a word splits into bytes. -/

namespace Sys2Proof

/-- `hi:lo`, the 16-bit concatenation `hi * 256 + lo` (`00_scope.md` R9). -/
def wordOf (hi lo : Byte) : Word := hi ++ lo

/-- `v[7:0]` (`00_scope.md` R9). -/
def lowByte (v : Word) : Byte := v.extractLsb' 0 8

/-- `v[15:8]` (`00_scope.md` R9). -/
def highByte (v : Word) : Byte := v.extractLsb' 8 8

end Sys2Proof
end

