-- ==== Sys2Proof/Syntax.lean ====
section
/-! DEFINITION. The instructions of WC8080 as syntax, one constructor of `Instr` for every row of the opcode table
(`30_encoding.md` R108, R109), the operand forms they are named with, and the host's calls (`00_scope.md` R6). -/

namespace Sys2Proof

/-- The seven byte registers (`10_state.md` R20). -/
inductive Reg8 where
  | a | b | c | d | e | h | l
deriving DecidableEq, Repr

/-- A byte operand: a register, or `M`, the memory byte at address HL (`30_encoding.md` R104, code 110). -/
inductive Operand where
  | reg (r : Reg8)
  | m
deriving DecidableEq, Repr

/-- The three register pairs (`10_state.md` R21), the operands of PUSH and POP other than PSW. -/
inductive RegPair where
  | bc | de | hl
deriving DecidableEq, Repr

/-- The 16-bit operands of LXI, INX, DCX and DAD (`30_encoding.md` R105). -/
inductive PairSp where
  | bc | de | hl | sp
deriving DecidableEq, Repr

/-- The pairs LDAX and STAX address memory with (`30_encoding.md` R105). -/
inductive BcDe where
  | bc | de
deriving DecidableEq, Repr

/-- The ALU operations of field `aaa` (`30_encoding.md` R102, R108), in the order of their codes. -/
inductive AluOp where
  | add | adc | sub | sbb | ana | xra | ora | cmp
deriving DecidableEq, Repr

/-- The eight conditions of field `ccc` (`30_encoding.md` R106), in the order of their codes. -/
inductive Cond where
  | nz | z | nc | c | po | pe | p | m
deriving DecidableEq, Repr

/-- One constructor for each of the 256 opcode bytes, those with an operand first: format F3, format F2, format F1
(`30_encoding.md` R101), each in the table's order. The name is the table's mnemonic; the
second and later rows of one mnemonic (the NOP aliases, the RET alias, the opcodes with no defined case) carry the
opcode byte in their name, since the cost of an instruction depends on it (`60_exceptions.md` R292). -/
inductive Instr where
  | lxiB (d16 : Word)
  | lxiD (d16 : Word)
  | lxiH (d16 : Word)
  | shld (a16 : Word)
  | lhld (a16 : Word)
  | lxiSp (d16 : Word)
  | sta (a16 : Word)
  | lda (a16 : Word)
  | jnz (a16 : Word)
  | jmp (a16 : Word)
  | cnz (a16 : Word)
  | jz (a16 : Word)
  | cz (a16 : Word)
  | call (a16 : Word)
  | jnc (a16 : Word)
  | cnc (a16 : Word)
  | jc (a16 : Word)
  | cc (a16 : Word)
  | jpo (a16 : Word)
  | cpo (a16 : Word)
  | jpe (a16 : Word)
  | cpe (a16 : Word)
  | jp (a16 : Word)
  | cp (a16 : Word)
  | jm (a16 : Word)
  | cm (a16 : Word)
  | mviB (d8 : Byte)
  | mviC (d8 : Byte)
  | mviD (d8 : Byte)
  | mviE (d8 : Byte)
  | mviH (d8 : Byte)
  | mviL (d8 : Byte)
  | mviM (d8 : Byte)
  | mviA (d8 : Byte)
  | adi (d8 : Byte)
  | aci (d8 : Byte)
  | out (p8 : Byte)
  | sui (d8 : Byte)
  | inp (p8 : Byte)
  | sbi (d8 : Byte)
  | ani (d8 : Byte)
  | xri (d8 : Byte)
  | ori (d8 : Byte)
  | cpi (d8 : Byte)
  | nop
  | staxB
  | inxB
  | inrB
  | dcrB
  | rlc
  | nop08
  | dadB
  | ldaxB
  | dcxB
  | inrC
  | dcrC
  | rrc
  | nop10
  | staxD
  | inxD
  | inrD
  | dcrD
  | ral
  | nop18
  | dadD
  | ldaxD
  | dcxD
  | inrE
  | dcrE
  | rar
  | nop20
  | inxH
  | inrH
  | dcrH
  | daa
  | nop28
  | dadH
  | dcxH
  | inrL
  | dcrL
  | cma
  | nop30
  | inxSp
  | inrM
  | dcrM
  | stc
  | nop38
  | dadSp
  | dcxSp
  | inrA
  | dcrA
  | cmc
  | movBB
  | movBC
  | movBD
  | movBE
  | movBH
  | movBL
  | movBM
  | movBA
  | movCB
  | movCC
  | movCD
  | movCE
  | movCH
  | movCL
  | movCM
  | movCA
  | movDB
  | movDC
  | movDD
  | movDE
  | movDH
  | movDL
  | movDM
  | movDA
  | movEB
  | movEC
  | movED
  | movEE
  | movEH
  | movEL
  | movEM
  | movEA
  | movHB
  | movHC
  | movHD
  | movHE
  | movHH
  | movHL
  | movHM
  | movHA
  | movLB
  | movLC
  | movLD
  | movLE
  | movLH
  | movLL
  | movLM
  | movLA
  | movMB
  | movMC
  | movMD
  | movME
  | movMH
  | movML
  | hlt
  | movMA
  | movAB
  | movAC
  | movAD
  | movAE
  | movAH
  | movAL
  | movAM
  | movAA
  | addB
  | addC
  | addD
  | addE
  | addH
  | addL
  | addM
  | addA
  | adcB
  | adcC
  | adcD
  | adcE
  | adcH
  | adcL
  | adcM
  | adcA
  | subB
  | subC
  | subD
  | subE
  | subH
  | subL
  | subM
  | subA
  | sbbB
  | sbbC
  | sbbD
  | sbbE
  | sbbH
  | sbbL
  | sbbM
  | sbbA
  | anaB
  | anaC
  | anaD
  | anaE
  | anaH
  | anaL
  | anaM
  | anaA
  | xraB
  | xraC
  | xraD
  | xraE
  | xraH
  | xraL
  | xraM
  | xraA
  | oraB
  | oraC
  | oraD
  | oraE
  | oraH
  | oraL
  | oraM
  | oraA
  | cmpB
  | cmpC
  | cmpD
  | cmpE
  | cmpH
  | cmpL
  | cmpM
  | cmpA
  | rnz
  | popB
  | pushB
  | rst0
  | rz
  | ret
  | undefCB
  | rst1
  | rnc
  | popD
  | pushD
  | rst2
  | rc
  | retD9
  | undefDD
  | rst3
  | rpo
  | popH
  | xthl
  | pushH
  | rst4
  | rpe
  | pchl
  | xchg
  | undefED
  | rst5
  | rp
  | popPsw
  | di
  | pushPsw
  | rst6
  | rm
  | sphl
  | ei
  | undefFD
  | rst7
deriving DecidableEq, Repr

/-! ### Families

The constructors by operand: `Instr.movRR d r` is the constructor of `MOV d,r`. The statements quantify over operands through
these. -/

/-- `MOV d,r` (R130). -/
def Instr.movRR : Reg8 → Reg8 → Instr
  | .b, .b => .movBB
  | .b, .c => .movBC
  | .b, .d => .movBD
  | .b, .e => .movBE
  | .b, .h => .movBH
  | .b, .l => .movBL
  | .b, .a => .movBA
  | .c, .b => .movCB
  | .c, .c => .movCC
  | .c, .d => .movCD
  | .c, .e => .movCE
  | .c, .h => .movCH
  | .c, .l => .movCL
  | .c, .a => .movCA
  | .d, .b => .movDB
  | .d, .c => .movDC
  | .d, .d => .movDD
  | .d, .e => .movDE
  | .d, .h => .movDH
  | .d, .l => .movDL
  | .d, .a => .movDA
  | .e, .b => .movEB
  | .e, .c => .movEC
  | .e, .d => .movED
  | .e, .e => .movEE
  | .e, .h => .movEH
  | .e, .l => .movEL
  | .e, .a => .movEA
  | .h, .b => .movHB
  | .h, .c => .movHC
  | .h, .d => .movHD
  | .h, .e => .movHE
  | .h, .h => .movHH
  | .h, .l => .movHL
  | .h, .a => .movHA
  | .l, .b => .movLB
  | .l, .c => .movLC
  | .l, .d => .movLD
  | .l, .e => .movLE
  | .l, .h => .movLH
  | .l, .l => .movLL
  | .l, .a => .movLA
  | .a, .b => .movAB
  | .a, .c => .movAC
  | .a, .d => .movAD
  | .a, .e => .movAE
  | .a, .h => .movAH
  | .a, .l => .movAL
  | .a, .a => .movAA

/-- `MOV d,M` (R131). -/
def Instr.movRM : Reg8 → Instr
  | .b => .movBM
  | .c => .movCM
  | .d => .movDM
  | .e => .movEM
  | .h => .movHM
  | .l => .movLM
  | .a => .movAM

/-- `MOV M,r` (R132). -/
def Instr.movMR : Reg8 → Instr
  | .b => .movMB
  | .c => .movMC
  | .d => .movMD
  | .e => .movME
  | .h => .movMH
  | .l => .movML
  | .a => .movMA

/-- `MVI d,d8` (R133). -/
def Instr.mviR : Reg8 → Byte → Instr
  | .b, v => .mviB v
  | .c, v => .mviC v
  | .d, v => .mviD v
  | .e, v => .mviE v
  | .h, v => .mviH v
  | .l, v => .mviL v
  | .a, v => .mviA v

/-- `LXI rp,d16` (R139). -/
def Instr.lxi : PairSp → Word → Instr
  | .bc, v => .lxiB v
  | .de, v => .lxiD v
  | .hl, v => .lxiH v
  | .sp, v => .lxiSp v

/-- `LDAX rp` (R135). -/
def Instr.ldax : BcDe → Instr
  | .bc => .ldaxB
  | .de => .ldaxD

/-- `STAX rp` (R136). -/
def Instr.stax : BcDe → Instr
  | .bc => .staxB
  | .de => .staxD

/-- `INX rp` (R184). -/
def Instr.inx : PairSp → Instr
  | .bc => .inxB
  | .de => .inxD
  | .hl => .inxH
  | .sp => .inxSp

/-- `DCX rp` (R185). -/
def Instr.dcx : PairSp → Instr
  | .bc => .dcxB
  | .de => .dcxD
  | .hl => .dcxH
  | .sp => .dcxSp

/-- `DAD rp` (R178). -/
def Instr.dad : PairSp → Instr
  | .bc => .dadB
  | .de => .dadD
  | .hl => .dadH
  | .sp => .dadSp

/-- `INR r` (R180) and `INR M` (R181). -/
def Instr.inr : Operand → Instr
  | .reg .b => .inrB
  | .reg .c => .inrC
  | .reg .d => .inrD
  | .reg .e => .inrE
  | .reg .h => .inrH
  | .reg .l => .inrL
  | .reg .a => .inrA
  | .m => .inrM

/-- `DCR r` (R182) and `DCR M` (R183). -/
def Instr.dcr : Operand → Instr
  | .reg .b => .dcrB
  | .reg .c => .dcrC
  | .reg .d => .dcrD
  | .reg .e => .dcrE
  | .reg .h => .dcrH
  | .reg .l => .dcrL
  | .reg .a => .dcrA
  | .m => .dcrM

/-- The ALU operation on A and a register or M (R163 to R166, R169 to R172, R175, R176, R210 to R215). -/
def Instr.alu : AluOp → Operand → Instr
  | .add, .reg .b => .addB
  | .add, .reg .c => .addC
  | .add, .reg .d => .addD
  | .add, .reg .e => .addE
  | .add, .reg .h => .addH
  | .add, .reg .l => .addL
  | .add, .reg .a => .addA
  | .add, .m => .addM
  | .adc, .reg .b => .adcB
  | .adc, .reg .c => .adcC
  | .adc, .reg .d => .adcD
  | .adc, .reg .e => .adcE
  | .adc, .reg .h => .adcH
  | .adc, .reg .l => .adcL
  | .adc, .reg .a => .adcA
  | .adc, .m => .adcM
  | .sub, .reg .b => .subB
  | .sub, .reg .c => .subC
  | .sub, .reg .d => .subD
  | .sub, .reg .e => .subE
  | .sub, .reg .h => .subH
  | .sub, .reg .l => .subL
  | .sub, .reg .a => .subA
  | .sub, .m => .subM
  | .sbb, .reg .b => .sbbB
  | .sbb, .reg .c => .sbbC
  | .sbb, .reg .d => .sbbD
  | .sbb, .reg .e => .sbbE
  | .sbb, .reg .h => .sbbH
  | .sbb, .reg .l => .sbbL
  | .sbb, .reg .a => .sbbA
  | .sbb, .m => .sbbM
  | .ana, .reg .b => .anaB
  | .ana, .reg .c => .anaC
  | .ana, .reg .d => .anaD
  | .ana, .reg .e => .anaE
  | .ana, .reg .h => .anaH
  | .ana, .reg .l => .anaL
  | .ana, .reg .a => .anaA
  | .ana, .m => .anaM
  | .xra, .reg .b => .xraB
  | .xra, .reg .c => .xraC
  | .xra, .reg .d => .xraD
  | .xra, .reg .e => .xraE
  | .xra, .reg .h => .xraH
  | .xra, .reg .l => .xraL
  | .xra, .reg .a => .xraA
  | .xra, .m => .xraM
  | .ora, .reg .b => .oraB
  | .ora, .reg .c => .oraC
  | .ora, .reg .d => .oraD
  | .ora, .reg .e => .oraE
  | .ora, .reg .h => .oraH
  | .ora, .reg .l => .oraL
  | .ora, .reg .a => .oraA
  | .ora, .m => .oraM
  | .cmp, .reg .b => .cmpB
  | .cmp, .reg .c => .cmpC
  | .cmp, .reg .d => .cmpD
  | .cmp, .reg .e => .cmpE
  | .cmp, .reg .h => .cmpH
  | .cmp, .reg .l => .cmpL
  | .cmp, .reg .a => .cmpA
  | .cmp, .m => .cmpM

/-- The ALU operation on A and an immediate byte (R167, R168, R173, R174, R177, R216 to R218). -/
def Instr.aluImm : AluOp → Byte → Instr
  | .add, v => .adi v
  | .adc, v => .aci v
  | .sub, v => .sui v
  | .sbb, v => .sbi v
  | .ana, v => .ani v
  | .xra, v => .xri v
  | .ora, v => .ori v
  | .cmp, v => .cpi v

/-- `Jcc a16` (R232). -/
def Instr.jcc : Cond → Word → Instr
  | .nz, t => .jnz t
  | .z, t => .jz t
  | .nc, t => .jnc t
  | .c, t => .jc t
  | .po, t => .jpo t
  | .pe, t => .jpe t
  | .p, t => .jp t
  | .m, t => .jm t

/-- `Ccc a16` (R234). -/
def Instr.ccc : Cond → Word → Instr
  | .nz, t => .cnz t
  | .z, t => .cz t
  | .nc, t => .cnc t
  | .c, t => .cc t
  | .po, t => .cpo t
  | .pe, t => .cpe t
  | .p, t => .cp t
  | .m, t => .cm t

/-- `Rcc` (R236). -/
def Instr.rcc : Cond → Instr
  | .nz => .rnz
  | .z => .rz
  | .nc => .rnc
  | .c => .rc
  | .po => .rpo
  | .pe => .rpe
  | .p => .rp
  | .m => .rm

/-- `RST n` (R237). -/
def Instr.rst : Fin 8 → Instr
  | 0 => .rst0
  | 1 => .rst1
  | 2 => .rst2
  | 3 => .rst3
  | 4 => .rst4
  | 5 => .rst5
  | 6 => .rst6
  | 7 => .rst7

/-- `PUSH rp` (R263). -/
def Instr.push : RegPair → Instr
  | .bc => .pushB
  | .de => .pushD
  | .hl => .pushH

/-- `POP rp` (R266). -/
def Instr.pop : RegPair → Instr
  | .bc => .popB
  | .de => .popD
  | .hl => .popH

/-- `NOP` and its seven aliases (R276, R277). -/
def Instr.nops : List Instr :=
  [.nop, .nop08, .nop10, .nop18, .nop20, .nop28, .nop30, .nop38]

/-- `RET` and its alias 0xD9 (R235, R278). -/
def Instr.rets : List Instr := [.ret, .retD9]

/-- The four opcodes with no defined case, each with its byte (R280). -/
def Instr.undefineds : List (Instr × Byte) :=
  [(.undefCB, 0xCB), (.undefDD, 0xDD), (.undefED, 0xED), (.undefFD, 0xFD)]

/-- The calls by which the host changes the machine (`00_scope.md` R6). Its reads change nothing and are not listed;
they are functions of the state in `Machine/HostInterface.lean`. -/
inductive HostOp where
  /-- `Load(buffer, address)` (`20_memory.md` R72). -/
  | load (address : Word) (buffer : List Byte)
  /-- `Clock()` (`60_exceptions.md` R290). -/
  | clock
  /-- `Interrupt(id)` (`60_exceptions.md` R300). -/
  | interrupt (id : Nat)
  /-- A host write of `InPort[i]` (`10_state.md` R35). -/
  | setInPort (i : Fin 4) (v : Byte)
  /-- The host's reset of `ClockCount` (`10_state.md` R39). -/
  | resetClockCount
  /-- The host's reset of `InstructionCount` (`10_state.md` R39). -/
  | resetInstructionCount
deriving DecidableEq, Repr

end Sys2Proof
end

