-- ==== Sys2Proof/Config.lean ====
section
/-! DEFINITION. The parameters the model takes as arguments (`00_scope.md` R8). They are fixed when the machine is
constructed; `State` carries them in one field that no operation writes, so a statement about every state is a
statement about every value of them. Their default values stand in `Machine/Defaults.lean`. -/

namespace Sys2Proof

/-- The mode strap (`00_scope.md` R8, `10_state.md` R34). -/
inductive Mode where
  | arcade
  | console
deriving DecidableEq, Repr

/-- The construction-time configuration (`00_scope.md` R8). -/
structure Config where
  /-- `MODE`. -/
  mode : Mode
  /-- `CYC[0..255]`, the base cycle cost of each opcode byte. -/
  cyc : Vector Nat 256
  /-- `TAKEN_EXTRA`, the extra cost of a taken conditional call or return. -/
  takenExtra : Nat
deriving DecidableEq, Repr

end Sys2Proof
end

