-- ==== Sys2Proof/Machine/Resolver.lean ====
section
/-! DEFINITION. The address-map resolver as pure functions of the mode (`20_memory.md`), and the contracts of the two
host calls that take arguments. -/

namespace Sys2Proof

/-- `Resolve(MODE, addr)`: the cell of the backing store a logical address names, none where it is unmapped
(`20_memory.md` R61). -/
def resolve (mode : Mode) (addr : Word) : Option Nat :=
  match mode with
  | .console => some addr.toNat
  | .arcade =>
    if addr.toNat ≤ 0x3FFF then some addr.toNat
    else if addr.toNat ≤ 0x43FF then some (addr.toNat - 0x2000)
    else none

/-- `WriteAllowed(MODE, addr)`, a test of the logical address (`20_memory.md` R65). -/
def writeAllowed (mode : Mode) (addr : Word) : Bool :=
  match mode with
  | .console => true
  | .arcade => decide (0x2000 ≤ addr.toNat) && decide (addr.toNat ≤ 0x4000)

/-- The contract of `Load`: inside the 64 KiB store, and in arcade mode inside the one-to-one region
(`20_memory.md` R72). -/
def loadInRange (mode : Mode) (address : Word) (length : Nat) : Bool :=
  decide (address.toNat + length ≤ 65536) &&
    match mode with
    | .console => true
    | .arcade => decide (address.toNat + length ≤ 0x4000)

/-- The two interrupt ids (`00_scope.md` R7, `60_exceptions.md` R300). -/
def interruptIdValid (id : Nat) : Bool := id == 0 || id == 1

end Sys2Proof
end

