-- ==== Sys2Proof/WellFormed.lean ====
section
/-! DEFINITION. What makes an instruction or a host call well formed. -/

namespace Sys2Proof

/-- Every term of `Instr` is an instruction: the operand types admit exactly the values the formats carry (an 8-bit
`d8` or `p8`, a 16-bit `d16` or `a16`, `30_encoding.md` R101, R103), and each opcode byte is a constructor of its own.
There is no check to fail (`30_encoding.md` R114). -/
abbrev Instr.WellFormed (_ : Instr) : Prop := True

/-- A host call that the spec does not refuse for its arguments (`60_exceptions.md` R296). -/
def HostOp.wellFormed (mode : Mode) : HostOp → Bool
  | .load address buffer => loadInRange mode address buffer.length
  | .interrupt id => interruptIdValid id
  | .clock => true
  | .setInPort _ _ => true
  | .resetClockCount => true
  | .resetInstructionCount => true

end Sys2Proof
end

