-- ==== Sys2Proof/Decode.lean ====
section
/-! DEFINITION. The instruction encoding (`30_encoding.md`): the decoder, from the opcode map of R109, and after it the
encoder, from the bit patterns of `opcode_table.json`. -/

namespace Sys2Proof

/-- What an opcode byte determines: an instruction of format F1, or one of F2 or F3 that still waits for its operand
(`30_encoding.md` R100, R101). -/
inductive Shape where
  | f1 (i : Instr)
  | f2 (make : Byte → Instr)
  | f3 (make : Word → Instr)

/-- The length in bytes of an instruction of this shape (`30_encoding.md` R101). -/
def Shape.length : Shape → Nat
  | .f1 _ => 1
  | .f2 _ => 2
  | .f3 _ => 3

/-! ### Field codes -/

/-- The register codes of `ddd` and `sss` (`30_encoding.md` R104). -/
def Reg8.code : Reg8 → Nat
  | .b => 0
  | .c => 1
  | .d => 2
  | .e => 3
  | .h => 4
  | .l => 5
  | .a => 7

/-- The operand codes, M being code 6 (`30_encoding.md` R104). -/
def Operand.code : Operand → Nat
  | .reg r => r.code
  | .m => 6

/-- The pair codes of `rp` (`30_encoding.md` R105). -/
def PairSp.code : PairSp → Nat
  | .bc => 0
  | .de => 1
  | .hl => 2
  | .sp => 3

/-- The pair codes of PUSH and POP (`30_encoding.md` R105). -/
def RegPair.code : RegPair → Nat
  | .bc => 0
  | .de => 1
  | .hl => 2

/-- The pair codes of LDAX and STAX (`30_encoding.md` R105). -/
def BcDe.code : BcDe → Nat
  | .bc => 0
  | .de => 1

/-- The condition codes `ccc` (`30_encoding.md` R106). -/
def Cond.code : Cond → Nat
  | .nz => 0
  | .z => 1
  | .nc => 2
  | .c => 3
  | .po => 4
  | .pe => 5
  | .p => 6
  | .m => 7

/-- The operation codes `aaa` (`30_encoding.md` R108). -/
def AluOp.code : AluOp → Nat
  | .add => 0
  | .adc => 1
  | .sub => 2
  | .sbb => 3
  | .ana => 4
  | .xra => 5
  | .ora => 6
  | .cmp => 7

/-! ### The opcode map

`opcodeRow0` to `opcodeRowF` are the sixteen rows of the grid of `30_encoding.md` R109, indexed by the low hex digit. -/

/-- Row 0x of R109. -/
def opcodeRow0 : Nat → Shape
  | 0 => .f1 .nop
  | 1 => .f3 .lxiB
  | 2 => .f1 .staxB
  | 3 => .f1 .inxB
  | 4 => .f1 .inrB
  | 5 => .f1 .dcrB
  | 6 => .f2 .mviB
  | 7 => .f1 .rlc
  | 8 => .f1 .nop08
  | 9 => .f1 .dadB
  | 10 => .f1 .ldaxB
  | 11 => .f1 .dcxB
  | 12 => .f1 .inrC
  | 13 => .f1 .dcrC
  | 14 => .f2 .mviC
  | _ => .f1 .rrc

/-- Row 1x of R109. -/
def opcodeRow1 : Nat → Shape
  | 0 => .f1 .nop10
  | 1 => .f3 .lxiD
  | 2 => .f1 .staxD
  | 3 => .f1 .inxD
  | 4 => .f1 .inrD
  | 5 => .f1 .dcrD
  | 6 => .f2 .mviD
  | 7 => .f1 .ral
  | 8 => .f1 .nop18
  | 9 => .f1 .dadD
  | 10 => .f1 .ldaxD
  | 11 => .f1 .dcxD
  | 12 => .f1 .inrE
  | 13 => .f1 .dcrE
  | 14 => .f2 .mviE
  | _ => .f1 .rar

/-- Row 2x of R109. -/
def opcodeRow2 : Nat → Shape
  | 0 => .f1 .nop20
  | 1 => .f3 .lxiH
  | 2 => .f3 .shld
  | 3 => .f1 .inxH
  | 4 => .f1 .inrH
  | 5 => .f1 .dcrH
  | 6 => .f2 .mviH
  | 7 => .f1 .daa
  | 8 => .f1 .nop28
  | 9 => .f1 .dadH
  | 10 => .f3 .lhld
  | 11 => .f1 .dcxH
  | 12 => .f1 .inrL
  | 13 => .f1 .dcrL
  | 14 => .f2 .mviL
  | _ => .f1 .cma

/-- Row 3x of R109. -/
def opcodeRow3 : Nat → Shape
  | 0 => .f1 .nop30
  | 1 => .f3 .lxiSp
  | 2 => .f3 .sta
  | 3 => .f1 .inxSp
  | 4 => .f1 .inrM
  | 5 => .f1 .dcrM
  | 6 => .f2 .mviM
  | 7 => .f1 .stc
  | 8 => .f1 .nop38
  | 9 => .f1 .dadSp
  | 10 => .f3 .lda
  | 11 => .f1 .dcxSp
  | 12 => .f1 .inrA
  | 13 => .f1 .dcrA
  | 14 => .f2 .mviA
  | _ => .f1 .cmc

/-- Row 4x of R109. -/
def opcodeRow4 : Nat → Shape
  | 0 => .f1 .movBB
  | 1 => .f1 .movBC
  | 2 => .f1 .movBD
  | 3 => .f1 .movBE
  | 4 => .f1 .movBH
  | 5 => .f1 .movBL
  | 6 => .f1 .movBM
  | 7 => .f1 .movBA
  | 8 => .f1 .movCB
  | 9 => .f1 .movCC
  | 10 => .f1 .movCD
  | 11 => .f1 .movCE
  | 12 => .f1 .movCH
  | 13 => .f1 .movCL
  | 14 => .f1 .movCM
  | _ => .f1 .movCA

/-- Row 5x of R109. -/
def opcodeRow5 : Nat → Shape
  | 0 => .f1 .movDB
  | 1 => .f1 .movDC
  | 2 => .f1 .movDD
  | 3 => .f1 .movDE
  | 4 => .f1 .movDH
  | 5 => .f1 .movDL
  | 6 => .f1 .movDM
  | 7 => .f1 .movDA
  | 8 => .f1 .movEB
  | 9 => .f1 .movEC
  | 10 => .f1 .movED
  | 11 => .f1 .movEE
  | 12 => .f1 .movEH
  | 13 => .f1 .movEL
  | 14 => .f1 .movEM
  | _ => .f1 .movEA

/-- Row 6x of R109. -/
def opcodeRow6 : Nat → Shape
  | 0 => .f1 .movHB
  | 1 => .f1 .movHC
  | 2 => .f1 .movHD
  | 3 => .f1 .movHE
  | 4 => .f1 .movHH
  | 5 => .f1 .movHL
  | 6 => .f1 .movHM
  | 7 => .f1 .movHA
  | 8 => .f1 .movLB
  | 9 => .f1 .movLC
  | 10 => .f1 .movLD
  | 11 => .f1 .movLE
  | 12 => .f1 .movLH
  | 13 => .f1 .movLL
  | 14 => .f1 .movLM
  | _ => .f1 .movLA

/-- Row 7x of R109. -/
def opcodeRow7 : Nat → Shape
  | 0 => .f1 .movMB
  | 1 => .f1 .movMC
  | 2 => .f1 .movMD
  | 3 => .f1 .movME
  | 4 => .f1 .movMH
  | 5 => .f1 .movML
  | 6 => .f1 .hlt
  | 7 => .f1 .movMA
  | 8 => .f1 .movAB
  | 9 => .f1 .movAC
  | 10 => .f1 .movAD
  | 11 => .f1 .movAE
  | 12 => .f1 .movAH
  | 13 => .f1 .movAL
  | 14 => .f1 .movAM
  | _ => .f1 .movAA

/-- Row 8x of R109. -/
def opcodeRow8 : Nat → Shape
  | 0 => .f1 .addB
  | 1 => .f1 .addC
  | 2 => .f1 .addD
  | 3 => .f1 .addE
  | 4 => .f1 .addH
  | 5 => .f1 .addL
  | 6 => .f1 .addM
  | 7 => .f1 .addA
  | 8 => .f1 .adcB
  | 9 => .f1 .adcC
  | 10 => .f1 .adcD
  | 11 => .f1 .adcE
  | 12 => .f1 .adcH
  | 13 => .f1 .adcL
  | 14 => .f1 .adcM
  | _ => .f1 .adcA

/-- Row 9x of R109. -/
def opcodeRow9 : Nat → Shape
  | 0 => .f1 .subB
  | 1 => .f1 .subC
  | 2 => .f1 .subD
  | 3 => .f1 .subE
  | 4 => .f1 .subH
  | 5 => .f1 .subL
  | 6 => .f1 .subM
  | 7 => .f1 .subA
  | 8 => .f1 .sbbB
  | 9 => .f1 .sbbC
  | 10 => .f1 .sbbD
  | 11 => .f1 .sbbE
  | 12 => .f1 .sbbH
  | 13 => .f1 .sbbL
  | 14 => .f1 .sbbM
  | _ => .f1 .sbbA

/-- Row Ax of R109. -/
def opcodeRowA : Nat → Shape
  | 0 => .f1 .anaB
  | 1 => .f1 .anaC
  | 2 => .f1 .anaD
  | 3 => .f1 .anaE
  | 4 => .f1 .anaH
  | 5 => .f1 .anaL
  | 6 => .f1 .anaM
  | 7 => .f1 .anaA
  | 8 => .f1 .xraB
  | 9 => .f1 .xraC
  | 10 => .f1 .xraD
  | 11 => .f1 .xraE
  | 12 => .f1 .xraH
  | 13 => .f1 .xraL
  | 14 => .f1 .xraM
  | _ => .f1 .xraA

/-- Row Bx of R109. -/
def opcodeRowB : Nat → Shape
  | 0 => .f1 .oraB
  | 1 => .f1 .oraC
  | 2 => .f1 .oraD
  | 3 => .f1 .oraE
  | 4 => .f1 .oraH
  | 5 => .f1 .oraL
  | 6 => .f1 .oraM
  | 7 => .f1 .oraA
  | 8 => .f1 .cmpB
  | 9 => .f1 .cmpC
  | 10 => .f1 .cmpD
  | 11 => .f1 .cmpE
  | 12 => .f1 .cmpH
  | 13 => .f1 .cmpL
  | 14 => .f1 .cmpM
  | _ => .f1 .cmpA

/-- Row Cx of R109. -/
def opcodeRowC : Nat → Shape
  | 0 => .f1 .rnz
  | 1 => .f1 .popB
  | 2 => .f3 .jnz
  | 3 => .f3 .jmp
  | 4 => .f3 .cnz
  | 5 => .f1 .pushB
  | 6 => .f2 .adi
  | 7 => .f1 .rst0
  | 8 => .f1 .rz
  | 9 => .f1 .ret
  | 10 => .f3 .jz
  | 11 => .f1 .undefCB
  | 12 => .f3 .cz
  | 13 => .f3 .call
  | 14 => .f2 .aci
  | _ => .f1 .rst1

/-- Row Dx of R109. -/
def opcodeRowD : Nat → Shape
  | 0 => .f1 .rnc
  | 1 => .f1 .popD
  | 2 => .f3 .jnc
  | 3 => .f2 .out
  | 4 => .f3 .cnc
  | 5 => .f1 .pushD
  | 6 => .f2 .sui
  | 7 => .f1 .rst2
  | 8 => .f1 .rc
  | 9 => .f1 .retD9
  | 10 => .f3 .jc
  | 11 => .f2 .inp
  | 12 => .f3 .cc
  | 13 => .f1 .undefDD
  | 14 => .f2 .sbi
  | _ => .f1 .rst3

/-- Row Ex of R109. -/
def opcodeRowE : Nat → Shape
  | 0 => .f1 .rpo
  | 1 => .f1 .popH
  | 2 => .f3 .jpo
  | 3 => .f1 .xthl
  | 4 => .f3 .cpo
  | 5 => .f1 .pushH
  | 6 => .f2 .ani
  | 7 => .f1 .rst4
  | 8 => .f1 .rpe
  | 9 => .f1 .pchl
  | 10 => .f3 .jpe
  | 11 => .f1 .xchg
  | 12 => .f3 .cpe
  | 13 => .f1 .undefED
  | 14 => .f2 .xri
  | _ => .f1 .rst5

/-- Row Fx of R109. -/
def opcodeRowF : Nat → Shape
  | 0 => .f1 .rp
  | 1 => .f1 .popPsw
  | 2 => .f3 .jp
  | 3 => .f1 .di
  | 4 => .f3 .cp
  | 5 => .f1 .pushPsw
  | 6 => .f2 .ori
  | 7 => .f1 .rst6
  | 8 => .f1 .rm
  | 9 => .f1 .sphl
  | 10 => .f3 .jm
  | 11 => .f1 .ei
  | 12 => .f3 .cm
  | 13 => .f1 .undefFD
  | 14 => .f2 .cpi
  | _ => .f1 .rst7

/-- The whole map: every byte has exactly one row (`30_encoding.md` R114). -/
def opcodeMap (op : Byte) : Shape :=
  let low := op.toNat % 16
  match op.toNat / 16 with
  | 0 => opcodeRow0 low
  | 1 => opcodeRow1 low
  | 2 => opcodeRow2 low
  | 3 => opcodeRow3 low
  | 4 => opcodeRow4 low
  | 5 => opcodeRow5 low
  | 6 => opcodeRow6 low
  | 7 => opcodeRow7 low
  | 8 => opcodeRow8 low
  | 9 => opcodeRow9 low
  | 10 => opcodeRowA low
  | 11 => opcodeRowB low
  | 12 => opcodeRowC low
  | 13 => opcodeRowD low
  | 14 => opcodeRowE low
  | _ => opcodeRowF low

/-- The length of the instruction an opcode byte begins (`30_encoding.md` R110). -/
def lengthOf (op : Byte) : Nat := (opcodeMap op).length

/-- Why bytes are no instruction. The opcode byte itself is never rejected (`30_encoding.md` R114). -/
inductive DecodeError where
  /-- There is no byte at all. -/
  | noOpcode
  /-- The bytes end before the operand does. -/
  | operandMissing (op : Byte)
deriving DecidableEq, Repr

/-- Decode one instruction at the head of a byte list: the instruction and the bytes after it. Operands are low byte
first (`30_encoding.md` R103). -/
def decode : List Byte → Except DecodeError (Instr × List Byte)
  | [] => .error .noOpcode
  | op :: rest =>
    match opcodeMap op, rest with
    | .f1 i, rest => .ok (i, rest)
    | .f2 make, v :: rest => .ok (make v, rest)
    | .f3 make, lo :: hi :: rest => .ok (make (wordOf hi lo), rest)
    | .f2 _, [] => .error (.operandMissing op)
    | .f3 _, [] => .error (.operandMissing op)
    | .f3 _, [_] => .error (.operandMissing op)

/-- The bytes of an instruction whose bits are the `nbits` low bits of `w` as the opcode table numbers them, every bit
above zero, up to the longest instruction: the opcode byte first, then the operand bytes in address order
(`30_encoding.md` R101). -/
def tableWordBytes (nbits w : Nat) : List Byte :=
  let v := w % 2 ^ nbits
  [BitVec.ofNat 8 v, BitVec.ofNat 8 (v / 0x100), BitVec.ofNat 8 (v / 0x10000)]

/-- The instruction the decoder reads from the bits `w` of an opcode-table row of `nbits` bits. -/
def decodeTableWord (nbits w : Nat) : Option Instr :=
  match decode (tableWordBytes nbits w) with
  | .ok (i, _) => some i
  | .error _ => none

/-! ### The encoder -/

/-- The bytes of an instruction, opcode first (`30_encoding.md` R101, R103, R108; `opcode_table.json`). -/
def encode : Instr → List Byte
  | .nop => [0b00000000]
  | .lxiB v => [0b00000001, lowByte v, highByte v]
  | .staxB => [0b00000010]
  | .inxB => [0b00000011]
  | .inrB => [0b00000100]
  | .dcrB => [0b00000101]
  | .mviB v => [0b00000110, v]
  | .rlc => [0b00000111]
  | .nop08 => [0b00001000]
  | .dadB => [0b00001001]
  | .ldaxB => [0b00001010]
  | .dcxB => [0b00001011]
  | .inrC => [0b00001100]
  | .dcrC => [0b00001101]
  | .mviC v => [0b00001110, v]
  | .rrc => [0b00001111]
  | .nop10 => [0b00010000]
  | .lxiD v => [0b00010001, lowByte v, highByte v]
  | .staxD => [0b00010010]
  | .inxD => [0b00010011]
  | .inrD => [0b00010100]
  | .dcrD => [0b00010101]
  | .mviD v => [0b00010110, v]
  | .ral => [0b00010111]
  | .nop18 => [0b00011000]
  | .dadD => [0b00011001]
  | .ldaxD => [0b00011010]
  | .dcxD => [0b00011011]
  | .inrE => [0b00011100]
  | .dcrE => [0b00011101]
  | .mviE v => [0b00011110, v]
  | .rar => [0b00011111]
  | .nop20 => [0b00100000]
  | .lxiH v => [0b00100001, lowByte v, highByte v]
  | .shld v => [0b00100010, lowByte v, highByte v]
  | .inxH => [0b00100011]
  | .inrH => [0b00100100]
  | .dcrH => [0b00100101]
  | .mviH v => [0b00100110, v]
  | .daa => [0b00100111]
  | .nop28 => [0b00101000]
  | .dadH => [0b00101001]
  | .lhld v => [0b00101010, lowByte v, highByte v]
  | .dcxH => [0b00101011]
  | .inrL => [0b00101100]
  | .dcrL => [0b00101101]
  | .mviL v => [0b00101110, v]
  | .cma => [0b00101111]
  | .nop30 => [0b00110000]
  | .lxiSp v => [0b00110001, lowByte v, highByte v]
  | .sta v => [0b00110010, lowByte v, highByte v]
  | .inxSp => [0b00110011]
  | .inrM => [0b00110100]
  | .dcrM => [0b00110101]
  | .mviM v => [0b00110110, v]
  | .stc => [0b00110111]
  | .nop38 => [0b00111000]
  | .dadSp => [0b00111001]
  | .lda v => [0b00111010, lowByte v, highByte v]
  | .dcxSp => [0b00111011]
  | .inrA => [0b00111100]
  | .dcrA => [0b00111101]
  | .mviA v => [0b00111110, v]
  | .cmc => [0b00111111]
  | .movBB => [0b01000000]
  | .movBC => [0b01000001]
  | .movBD => [0b01000010]
  | .movBE => [0b01000011]
  | .movBH => [0b01000100]
  | .movBL => [0b01000101]
  | .movBM => [0b01000110]
  | .movBA => [0b01000111]
  | .movCB => [0b01001000]
  | .movCC => [0b01001001]
  | .movCD => [0b01001010]
  | .movCE => [0b01001011]
  | .movCH => [0b01001100]
  | .movCL => [0b01001101]
  | .movCM => [0b01001110]
  | .movCA => [0b01001111]
  | .movDB => [0b01010000]
  | .movDC => [0b01010001]
  | .movDD => [0b01010010]
  | .movDE => [0b01010011]
  | .movDH => [0b01010100]
  | .movDL => [0b01010101]
  | .movDM => [0b01010110]
  | .movDA => [0b01010111]
  | .movEB => [0b01011000]
  | .movEC => [0b01011001]
  | .movED => [0b01011010]
  | .movEE => [0b01011011]
  | .movEH => [0b01011100]
  | .movEL => [0b01011101]
  | .movEM => [0b01011110]
  | .movEA => [0b01011111]
  | .movHB => [0b01100000]
  | .movHC => [0b01100001]
  | .movHD => [0b01100010]
  | .movHE => [0b01100011]
  | .movHH => [0b01100100]
  | .movHL => [0b01100101]
  | .movHM => [0b01100110]
  | .movHA => [0b01100111]
  | .movLB => [0b01101000]
  | .movLC => [0b01101001]
  | .movLD => [0b01101010]
  | .movLE => [0b01101011]
  | .movLH => [0b01101100]
  | .movLL => [0b01101101]
  | .movLM => [0b01101110]
  | .movLA => [0b01101111]
  | .movMB => [0b01110000]
  | .movMC => [0b01110001]
  | .movMD => [0b01110010]
  | .movME => [0b01110011]
  | .movMH => [0b01110100]
  | .movML => [0b01110101]
  | .hlt => [0b01110110]
  | .movMA => [0b01110111]
  | .movAB => [0b01111000]
  | .movAC => [0b01111001]
  | .movAD => [0b01111010]
  | .movAE => [0b01111011]
  | .movAH => [0b01111100]
  | .movAL => [0b01111101]
  | .movAM => [0b01111110]
  | .movAA => [0b01111111]
  | .addB => [0b10000000]
  | .addC => [0b10000001]
  | .addD => [0b10000010]
  | .addE => [0b10000011]
  | .addH => [0b10000100]
  | .addL => [0b10000101]
  | .addM => [0b10000110]
  | .addA => [0b10000111]
  | .adcB => [0b10001000]
  | .adcC => [0b10001001]
  | .adcD => [0b10001010]
  | .adcE => [0b10001011]
  | .adcH => [0b10001100]
  | .adcL => [0b10001101]
  | .adcM => [0b10001110]
  | .adcA => [0b10001111]
  | .subB => [0b10010000]
  | .subC => [0b10010001]
  | .subD => [0b10010010]
  | .subE => [0b10010011]
  | .subH => [0b10010100]
  | .subL => [0b10010101]
  | .subM => [0b10010110]
  | .subA => [0b10010111]
  | .sbbB => [0b10011000]
  | .sbbC => [0b10011001]
  | .sbbD => [0b10011010]
  | .sbbE => [0b10011011]
  | .sbbH => [0b10011100]
  | .sbbL => [0b10011101]
  | .sbbM => [0b10011110]
  | .sbbA => [0b10011111]
  | .anaB => [0b10100000]
  | .anaC => [0b10100001]
  | .anaD => [0b10100010]
  | .anaE => [0b10100011]
  | .anaH => [0b10100100]
  | .anaL => [0b10100101]
  | .anaM => [0b10100110]
  | .anaA => [0b10100111]
  | .xraB => [0b10101000]
  | .xraC => [0b10101001]
  | .xraD => [0b10101010]
  | .xraE => [0b10101011]
  | .xraH => [0b10101100]
  | .xraL => [0b10101101]
  | .xraM => [0b10101110]
  | .xraA => [0b10101111]
  | .oraB => [0b10110000]
  | .oraC => [0b10110001]
  | .oraD => [0b10110010]
  | .oraE => [0b10110011]
  | .oraH => [0b10110100]
  | .oraL => [0b10110101]
  | .oraM => [0b10110110]
  | .oraA => [0b10110111]
  | .cmpB => [0b10111000]
  | .cmpC => [0b10111001]
  | .cmpD => [0b10111010]
  | .cmpE => [0b10111011]
  | .cmpH => [0b10111100]
  | .cmpL => [0b10111101]
  | .cmpM => [0b10111110]
  | .cmpA => [0b10111111]
  | .rnz => [0b11000000]
  | .popB => [0b11000001]
  | .jnz v => [0b11000010, lowByte v, highByte v]
  | .jmp v => [0b11000011, lowByte v, highByte v]
  | .cnz v => [0b11000100, lowByte v, highByte v]
  | .pushB => [0b11000101]
  | .adi v => [0b11000110, v]
  | .rst0 => [0b11000111]
  | .rz => [0b11001000]
  | .ret => [0b11001001]
  | .jz v => [0b11001010, lowByte v, highByte v]
  | .undefCB => [0b11001011]
  | .cz v => [0b11001100, lowByte v, highByte v]
  | .call v => [0b11001101, lowByte v, highByte v]
  | .aci v => [0b11001110, v]
  | .rst1 => [0b11001111]
  | .rnc => [0b11010000]
  | .popD => [0b11010001]
  | .jnc v => [0b11010010, lowByte v, highByte v]
  | .out v => [0b11010011, v]
  | .cnc v => [0b11010100, lowByte v, highByte v]
  | .pushD => [0b11010101]
  | .sui v => [0b11010110, v]
  | .rst2 => [0b11010111]
  | .rc => [0b11011000]
  | .retD9 => [0b11011001]
  | .jc v => [0b11011010, lowByte v, highByte v]
  | .inp v => [0b11011011, v]
  | .cc v => [0b11011100, lowByte v, highByte v]
  | .undefDD => [0b11011101]
  | .sbi v => [0b11011110, v]
  | .rst3 => [0b11011111]
  | .rpo => [0b11100000]
  | .popH => [0b11100001]
  | .jpo v => [0b11100010, lowByte v, highByte v]
  | .xthl => [0b11100011]
  | .cpo v => [0b11100100, lowByte v, highByte v]
  | .pushH => [0b11100101]
  | .ani v => [0b11100110, v]
  | .rst4 => [0b11100111]
  | .rpe => [0b11101000]
  | .pchl => [0b11101001]
  | .jpe v => [0b11101010, lowByte v, highByte v]
  | .xchg => [0b11101011]
  | .cpe v => [0b11101100, lowByte v, highByte v]
  | .undefED => [0b11101101]
  | .xri v => [0b11101110, v]
  | .rst5 => [0b11101111]
  | .rp => [0b11110000]
  | .popPsw => [0b11110001]
  | .jp v => [0b11110010, lowByte v, highByte v]
  | .di => [0b11110011]
  | .cp v => [0b11110100, lowByte v, highByte v]
  | .pushPsw => [0b11110101]
  | .ori v => [0b11110110, v]
  | .rst6 => [0b11110111]
  | .rm => [0b11111000]
  | .sphl => [0b11111001]
  | .jm v => [0b11111010, lowByte v, highByte v]
  | .ei => [0b11111011]
  | .cm v => [0b11111100, lowByte v, highByte v]
  | .undefFD => [0b11111101]
  | .cpi v => [0b11111110, v]
  | .rst7 => [0b11111111]

/-- The opcode byte of an instruction. -/
def opcode (i : Instr) : Byte := (encode i).headD 0

/-- The length of an instruction in bytes. -/
def Instr.length (i : Instr) : Nat := (encode i).length

end Sys2Proof
end

