-- ==== Sys2Proof/Machine/Defaults.lean ====
section
/-! DEFINITION. The values `State.reset` takes for the model's arguments, and the addresses the spec decides. The cycle
numbers are the spec's default, which it takes from general knowledge of the Intel 8080 (PRESUMED, entry 3); no
statement about the machine rests on them. -/

namespace Sys2Proof

/-- The default `CYC`, one line a high hex digit of the opcode (`70_reset_and_hazards.md` R360; PRESUMED, entry 3). -/
def defaultCyc : Vector Nat 256 :=
  #v[4, 10, 7, 5, 5, 5, 7, 4, 4, 10, 7, 5, 5, 5, 7, 4]
  ++ #v[4, 10, 7, 5, 5, 5, 7, 4, 4, 10, 7, 5, 5, 5, 7, 4]
  ++ #v[4, 10, 16, 5, 5, 5, 7, 4, 4, 10, 16, 5, 5, 5, 7, 4]
  ++ #v[4, 10, 13, 5, 10, 10, 10, 4, 4, 10, 13, 5, 5, 5, 7, 4]
  ++ #v[5, 5, 5, 5, 5, 5, 7, 5, 5, 5, 5, 5, 5, 5, 7, 5]
  ++ #v[5, 5, 5, 5, 5, 5, 7, 5, 5, 5, 5, 5, 5, 5, 7, 5]
  ++ #v[5, 5, 5, 5, 5, 5, 7, 5, 5, 5, 5, 5, 5, 5, 7, 5]
  ++ #v[7, 7, 7, 7, 7, 7, 7, 7, 5, 5, 5, 5, 5, 5, 7, 5]
  ++ #v[4, 4, 4, 4, 4, 4, 7, 4, 4, 4, 4, 4, 4, 4, 7, 4]
  ++ #v[4, 4, 4, 4, 4, 4, 7, 4, 4, 4, 4, 4, 4, 4, 7, 4]
  ++ #v[4, 4, 4, 4, 4, 4, 7, 4, 4, 4, 4, 4, 4, 4, 7, 4]
  ++ #v[4, 4, 4, 4, 4, 4, 7, 4, 4, 4, 4, 4, 4, 4, 7, 4]
  ++ #v[5, 10, 10, 10, 11, 11, 7, 11, 5, 10, 10, 10, 11, 17, 7, 11]
  ++ #v[5, 10, 10, 10, 11, 11, 7, 11, 5, 10, 10, 10, 11, 17, 7, 11]
  ++ #v[5, 10, 10, 18, 11, 11, 7, 11, 5, 5, 10, 4, 11, 17, 7, 11]
  ++ #v[5, 10, 10, 4, 11, 11, 7, 11, 5, 5, 10, 4, 11, 17, 7, 11]

/-- The default `TAKEN_EXTRA` (`70_reset_and_hazards.md` R360; PRESUMED, entry 3). -/
def defaultTakenExtra : Nat := 6

/-- The mode `State.reset` is constructed with; the spec leaves it open (DESIGN CHOICE, entry 2). -/
def resetMode : Mode := .console

/-- The configuration `State.reset` is constructed with. -/
def resetConfig : Config := { mode := resetMode, cyc := defaultCyc, takenExtra := defaultTakenExtra }

/-- `RESET_PC` (`00_scope.md` R8, `10_state.md` R46; the spec's decision D26, entry 4). -/
def resetPc : Mode → Word
  | .arcade => 0x0000
  | .console => 0x0100

/-- `VRAM_BASE`, the first cell of the video view (`20_memory.md` R73; decision D8, entry 29). -/
def vramBase : Nat := 0x2400

/-- The number of cells of the video view, `0x2400` to `0x3FFF` (`20_memory.md` R73; decision D8, entry 29). -/
def vramSize : Nat := 7168

end Sys2Proof
end

