-- ==== Sys2Proof/Machine/State.lean ====
section
/-! DEFINITION. The state of the machine (`10_state.md`), its value after construction, and the reasons a step stops. -/

namespace Sys2Proof.Machine

/-- The seven byte registers (`10_state.md` R20). The pairs are views of them (R21). -/
structure Regs where
  a : Byte
  b : Byte
  c : Byte
  d : Byte
  e : Byte
  h : Byte
  l : Byte
deriving DecidableEq, Repr

/-- The five condition flags (`10_state.md` R26). -/
structure Flags where
  /-- `Z`: the 8-bit result was 0. -/
  z : Bool
  /-- `S`: bit 7 of the 8-bit result. -/
  s : Bool
  /-- `P`: the 8-bit result has an even number of 1 bits. -/
  p : Bool
  /-- `CY`: carry or borrow. -/
  cy : Bool
  /-- `AC`: carry out of bit 3. -/
  ac : Bool
deriving DecidableEq, Repr

/-- The backing store `Store[0..65535]` (`10_state.md` R42) as the cells that do not hold 0x00, in rising order. -/
abbrev Memory := List Host.Cell

/-- A record of the diagnostic stream (`10_state.md` R41). -/
inductive Diagnostic where
  | unknownOpcode (op : Byte)
deriving DecidableEq, Repr

/-- The direction of a port access (`60_exceptions.md` R296). -/
inductive PortDir where
  | input
  | output
deriving DecidableEq, Repr

/-- Everything the spec gives the machine (`10_state.md`), and the arguments of the model. -/
structure State where
  /-- `A B C D E H L` (R20). -/
  regs : Regs
  /-- `Z S P CY AC` (R26). -/
  flags : Flags
  /-- `SP` (R25). -/
  sp : Word
  /-- `PC` (R23). -/
  pc : Word
  /-- `IE` (R32). -/
  ie : Bool
  /-- `Halted` (R33). -/
  halted : Bool
  /-- `InPort[0..3]` (R35). -/
  inPort : Vector Byte 4
  /-- `OutPort[0..6]` (R36). -/
  outPort : Vector Byte 7
  /-- `ShiftReg` (R37). -/
  shiftReg : BitVec 16
  /-- `ShiftOfs` (R38). -/
  shiftOfs : BitVec 3
  /-- `ClockCount` (R39). -/
  clockCount : BitVec 64
  /-- `InstructionCount` (R39). -/
  instructionCount : BitVec 64
  /-- The console output stream, oldest byte first (R40). -/
  consoleOut : List Byte
  /-- The diagnostic stream, oldest record first (R41). -/
  diagnostics : List Diagnostic
  /-- `Store` (R42). -/
  store : Memory
  /-- `MODE`, `CYC` and `TAKEN_EXTRA` (`00_scope.md` R8): arguments of the model, written by no operation (R43). -/
  config : Config
deriving DecidableEq, Repr

/-- The model-level faults of `60_exceptions.md` R296. -/
inductive Fault where
  /-- Raised by every read of a byte, an opcode or operand fetch included, at an unmapped address: arcade mode,
  0x4400 to 0xFFFF (`20_memory.md` R63). Safe: the model stops where the source gives no value. -/
  | unmappedRead (addr : Word)
  /-- Raised by `IN p` with `p ≥ 4` and by `OUT p` with `p ≥ 7` (`44_stack_io_control.md` R274, R275). Safe: the model
  stops where the source gives no behaviour. -/
  | portRange (dir : PortDir) (port : Byte)
deriving DecidableEq, Repr

/-- Why an instruction or a host call is not performed. -/
inductive Refusal where
  /-- Raised by an arm of `exec` whose instruction has no meaning yet. Safe: nothing is said of it. -/
  | notModelled (mnemonic : String)
  /-- Raised by the console print call when no 0x24 byte is reachable (`60_exceptions.md` R314). Safe: the scan would
  have no end. -/
  | unterminatedString
  /-- Raised by `Load` outside its contract (`20_memory.md` R72). Safe: the source gives no behaviour. -/
  | loadOutOfRange (address : Word) (length : Nat)
  /-- Raised by `Interrupt(id)` with `id` not 0 or 1 (`60_exceptions.md` R300). Safe: the type of the call excludes it. -/
  | interruptId (id : Nat)
deriving DecidableEq, Repr

/-- What an instruction, a step or a host call ends in. -/
abbrev Result := Host.Outcome State Fault Refusal

/-- The state after `construct` (`10_state.md` R46, `70_reset_and_hazards.md` R340), for any configuration. -/
def State.construct (config : Config) : State where
  regs := { a := 0x00, b := 0x00, c := 0x00, d := 0x00, e := 0x00, h := 0x00, l := 0x00 }
  flags := { z := false, s := false, p := false, cy := false, ac := false }
  sp := 0x0000
  pc := resetPc config.mode
  ie := false
  halted := false
  inPort := #v[0x00, 0x00, 0x00, 0x00]
  outPort := #v[0x00, 0x00, 0x00, 0x00, 0x00, 0x00, 0x00]
  shiftReg := 0x0000
  shiftOfs := 0
  clockCount := 0
  instructionCount := 0
  consoleOut := []
  diagnostics := []
  store := []
  config := config

/-- The machine right after reset, with the model's choice of arguments (entries 2 and 3). -/
def State.reset : State := State.construct resetConfig

end Sys2Proof.Machine
end

