-- ==== Sys2Proof/Machine/Ops.lean ====
section
/-! DEFINITION. The named operations over the state: one writer for each field, the backing store, the byte and word
accesses (`20_memory.md`), the stack (`44_stack_io_control.md`), operand fetch, and the entry of an interrupt with the
return from it (`60_exceptions.md`). -/

namespace Sys2Proof.Machine

/-- Go on with the value of an access, or stop with its fault. -/
def orFault {α σ : Type} (r : Except Fault α) (k : α → Host.Outcome σ Fault Refusal) : Host.Outcome σ Fault Refusal :=
  match r with
  | .ok v => k v
  | .error f => .fault f

/-! ### One writer for each field -/

def State.setRegs (g : Regs) (s : State) : State := { s with regs := g }

def State.setFlags (f : Flags) (s : State) : State := { s with flags := f }

def State.setSp (v : Word) (s : State) : State := { s with sp := v }

def State.setPc (v : Word) (s : State) : State := { s with pc := v }

def State.setIe (b : Bool) (s : State) : State := { s with ie := b }

def State.setHalted (b : Bool) (s : State) : State := { s with halted := b }

def State.setInPort (i : Fin 4) (v : Byte) (s : State) : State := { s with inPort := s.inPort.set i v }

def State.setOutPort (i : Fin 7) (v : Byte) (s : State) : State := { s with outPort := s.outPort.set i v }

def State.setShiftReg (v : BitVec 16) (s : State) : State := { s with shiftReg := v }

def State.setShiftOfs (v : BitVec 3) (s : State) : State := { s with shiftOfs := v }

/-- Add cycles to `ClockCount`, modulo 2^64 (`60_exceptions.md` R320). -/
def State.addClock (n : Nat) (s : State) : State := { s with clockCount := s.clockCount + BitVec.ofNat 64 n }

def State.setClockCount (v : BitVec 64) (s : State) : State := { s with clockCount := v }

def State.setInstructionCount (v : BitVec 64) (s : State) : State := { s with instructionCount := v }

/-- `emit` a run of bytes: append them to the console output stream (`10_state.md` R40). -/
def State.emit (bs : List Byte) (s : State) : State := { s with consoleOut := s.consoleOut ++ bs }

/-- `report UnknownOpcode(op)`: append a record to the diagnostic stream (`10_state.md` R41). -/
def State.report (op : Byte) (s : State) : State := { s with diagnostics := s.diagnostics ++ [.unknownOpcode op] }

def State.setStore (m : Memory) (s : State) : State := { s with store := m }

/-- `CYC[op]` (`00_scope.md` R8). -/
def State.cost (op : Byte) (s : State) : Nat := s.config.cyc[op.toNat]'op.isLt

/-! ### The backing store -/

/-- What a cell that is not listed holds: 0x00, the value of every cell after construction (`10_state.md` R46; entry 5). -/
def unlistedByte : Byte := 0x00

/-- The byte in a cell. -/
def Memory.read : Memory → Nat → Byte
  | [], _ => unlistedByte
  | (k, v) :: rest, c => if k = c then v else Memory.read rest c

/-- Put an entry in front, but for one that an unlisted cell reads as anyway. -/
def Memory.cons (c : Nat) (v : Byte) (m : Memory) : Memory := if v = unlistedByte then m else (c, v) :: m

/-- Write a cell, keeping the canonical form. -/
def Memory.write : Memory → Nat → Byte → Memory
  | [], c, v => Memory.cons c v []
  | (k, w) :: rest, c, v =>
    if c < k then Memory.cons c v ((k, w) :: rest)
    else if c = k then Memory.cons c v rest
    else (k, w) :: Memory.write rest c v

/-- The entries rise strictly, from `low` on. -/
def Memory.risesFrom : Nat → Memory → Bool
  | _, [] => true
  | low, (k, _) :: rest => decide (low ≤ k) && Memory.risesFrom (k + 1) rest

/-- The canonical form: cells strictly rising, all inside the store, none holding what an unlisted cell reads as. -/
def Memory.wf (m : Memory) : Bool :=
  Memory.risesFrom 0 m && m.all (fun e => decide (e.1 < 65536) && e.2 != unlistedByte)

/-- Write a run of consecutive cells (`20_memory.md` R72). -/
def Memory.writeRun : Memory → Nat → List Byte → Memory
  | m, _, [] => m
  | m, c, v :: vs => Memory.writeRun (m.write c v) (c + 1) vs

/-! ### Accesses by logical address -/

/-- `ReadByte(addr)` (`20_memory.md` R66). -/
def readByte (s : State) (addr : Word) : Except Fault Byte :=
  match resolve s.config.mode addr with
  | some c => .ok (s.store.read c)
  | none => .error (.unmappedRead addr)

/-- `WriteByte(addr, v)`: dropped silently where writes are not allowed (`20_memory.md` R65, R67). -/
def writeByte (addr : Word) (v : Byte) (s : State) : State :=
  if writeAllowed s.config.mode addr then
    match resolve s.config.mode addr with
    | some c => s.setStore (s.store.write c v)
    | none => s
  else s

/-- `ReadWord(addr)`: low byte at `addr`, high byte at `addr + 1` modulo 65536 (`20_memory.md` R68; decision D3, entry 9). -/
def readWord (s : State) (addr : Word) : Except Fault Word :=
  match readByte s addr with
  | .error f => .error f
  | .ok lo =>
    match readByte s (addr + 1) with
    | .error f => .error f
    | .ok hi => .ok (wordOf hi lo)

/-- `WriteWord(addr, v)`: two byte writes, each dropped or done on its own (`20_memory.md` R69; decision D3, entry 9). -/
def writeWord (addr : Word) (v : Word) (s : State) : State :=
  writeByte (addr + 1) (highByte v) (writeByte addr (lowByte v) s)

/-! ### Operand fetch -/

/-- `Fetch8()` (`00_scope.md` R12). -/
def fetch8 (s : State) : Except Fault (Byte × State) :=
  match readByte s s.pc with
  | .error f => .error f
  | .ok v => .ok (v, s.setPc (s.pc + 1))

/-- `Fetch16()`: low byte first (`00_scope.md` R12, `30_encoding.md` R103). -/
def fetch16 (s : State) : Except Fault (Word × State) :=
  match fetch8 s with
  | .error f => .error f
  | .ok (lo, s1) =>
    match fetch8 s1 with
    | .error f => .error f
    | .ok (hi, s2) => .ok (wordOf hi lo, s2)

/-! ### The stack -/

/-- `Push16(v)` (`44_stack_io_control.md` R260). -/
def push16 (v : Word) (s : State) : State := writeWord (s.sp - 2) v (s.setSp (s.sp - 2))

/-- `Pop16()`: the word and the state with SP moved (`44_stack_io_control.md` R261). -/
def pop16 (s : State) : Except Fault (Word × State) :=
  match readWord s s.sp with
  | .error f => .error f
  | .ok v => .ok (v, s.setSp (s.sp + 2))

/-- Push PC and go to `target`: the act of CALL and RST (`43_control_transfer.md` R233, R237). -/
def callTo (target : Word) (s : State) : State := (push16 s.pc s).setPc target

/-- Pop PC: the act of RET, and the return from an interrupt handler (`43_control_transfer.md` R235,
`60_exceptions.md` R303). -/
def returnToCaller (s : State) : Result := orFault (pop16 s) fun p => .next (p.2.setPc p.1)

/-! ### Interrupt entry -/

/-- The opcode of `DI` (`60_exceptions.md` R300). -/
def opcodeDi : Byte := 0xF3

/-- The restart opcode an interrupt id selects: RST 1 for id 0, RST 2 for id 1 (`60_exceptions.md` R300). -/
def interruptOpcode (id : Nat) : Byte := if id = 0 then 0xCF else 0xD7

/-- The vector of an interrupt id, `8 * (id + 1)` (`60_exceptions.md` R300, R301). -/
def interruptVector (id : Nat) : Word := BitVec.ofNat 16 (8 * (id + 1))

/-- Entry of a delivered interrupt: IE is cleared, the address of the next instruction is pushed, PC goes to the vector,
and the cycles of the two opcodes are counted. Nothing else is saved or changed (`60_exceptions.md` R300). -/
def takeInterrupt (id : Nat) (s : State) : State :=
  callTo (interruptVector id)
    (((s.setIe false).addClock (s.cost opcodeDi)).addClock (s.cost (interruptOpcode id)))

end Sys2Proof.Machine
end

