-- ==== Sys2Proof/Machine/Operands.lean ====
section
/-! DEFINITION. The operand forms: byte registers and M, register pairs, and the pairs with SP. -/

namespace Sys2Proof.Machine

/-- `R[c]` (`00_scope.md` R10). -/
def Regs.get (r : Reg8) (g : Regs) : Byte :=
  match r with
  | .a => g.a
  | .b => g.b
  | .c => g.c
  | .d => g.d
  | .e => g.e
  | .h => g.h
  | .l => g.l

/-- `R[c] <- v` (`00_scope.md` R10). -/
def Regs.set (r : Reg8) (v : Byte) (g : Regs) : Regs :=
  match r with
  | .a => { g with a := v }
  | .b => { g with b := v }
  | .c => { g with c := v }
  | .d => { g with d := v }
  | .e => { g with e := v }
  | .h => { g with h := v }
  | .l => { g with l := v }

/-- A pair as the 16-bit view of its two registers, the first-named one the high byte (`10_state.md` R21; decision D1,
entry 30). -/
def Regs.pair (p : RegPair) (g : Regs) : Word :=
  match p with
  | .bc => wordOf g.b g.c
  | .de => wordOf g.d g.e
  | .hl => wordOf g.h g.l

/-- `BC <- v` and the like: both halves are written (`10_state.md` R21). -/
def Regs.setPair (p : RegPair) (v : Word) (g : Regs) : Regs :=
  match p with
  | .bc => { g with b := highByte v, c := lowByte v }
  | .de => { g with d := highByte v, e := lowByte v }
  | .hl => { g with h := highByte v, l := lowByte v }

def State.reg (r : Reg8) (s : State) : Byte := s.regs.get r

def State.setReg (r : Reg8) (v : Byte) (s : State) : State := s.setRegs (s.regs.set r v)

def State.pair (p : RegPair) (s : State) : Word := s.regs.pair p

def State.setPair (p : RegPair) (v : Word) (s : State) : State := s.setRegs (s.regs.setPair p v)

/-- `HL`, the address of M. -/
def State.hl (s : State) : Word := s.pair .hl

/-- `RP[p]` with SP as code 3 (`30_encoding.md` R105). -/
def State.pairSp (p : PairSp) (s : State) : Word :=
  match p with
  | .bc => s.pair .bc
  | .de => s.pair .de
  | .hl => s.pair .hl
  | .sp => s.sp

/-- `RP[p] <- v` with SP as code 3. -/
def State.setPairSp (p : PairSp) (v : Word) (s : State) : State :=
  match p with
  | .bc => s.setPair .bc v
  | .de => s.setPair .de v
  | .hl => s.setPair .hl v
  | .sp => s.setSp v

/-- The address LDAX and STAX take from BC or DE (`40_data_transfer.md` R135, R136). -/
def State.bcDe (p : BcDe) (s : State) : Word :=
  match p with
  | .bc => s.pair .bc
  | .de => s.pair .de

/-- `Rd8(c)`: M is resolved when it is read (`00_scope.md` R12, `10_state.md` R44). -/
def rd8 (o : Operand) (s : State) : Except Fault Byte :=
  match o with
  | .reg r => .ok (s.reg r)
  | .m => readByte s s.hl

/-- `Wr8(c, v)` (`00_scope.md` R12). -/
def wr8 (o : Operand) (v : Byte) (s : State) : State :=
  match o with
  | .reg r => s.setReg r v
  | .m => writeByte s.hl v s

end Sys2Proof.Machine
end

