-- ==== Sys2Proof/Machine/Flags.lean ====
section
/-! DEFINITION. Flag computation (`41_arithmetic.md` R160 to R162, `42_logical.md` R208), the PSW flag byte
(`10_state.md` R31) and the conditions (`43_control_transfer.md` R230). -/

namespace Sys2Proof.Machine

/-- The number of 1 bits of a byte. -/
def onesCount (v : Byte) : Nat :=
  (v.getLsbD 0).toNat + (v.getLsbD 1).toNat + (v.getLsbD 2).toNat + (v.getLsbD 3).toNat
    + (v.getLsbD 4).toNat + (v.getLsbD 5).toNat + (v.getLsbD 6).toNat + (v.getLsbD 7).toNat

/-- `(Z, S, P) <- PZS(v)` (`10_state.md` R27). -/
def Flags.setZsp (v : Byte) (f : Flags) : Flags :=
  { f with z := v == 0, s := v.getLsbD 7, p := onesCount v % 2 == 0 }

/-- `CarryAt(a, b, cin, pos)`: the bit of `result ^ a ^ b` at `pos`, on untruncated integers (`41_arithmetic.md` R160). -/
def carryAt (a b : Byte) (cin : Bool) (pos : Nat) : Bool :=
  let result := a.toNat + b.toNat + cin.toNat
  (result ^^^ a.toNat ^^^ b.toNat).testBit pos

/-- The `mode` of the flag updates, 0 to 3 in this order (`41_arithmetic.md` R161). Mode 2 has no user
(`93_implementation_defined.md` U19). -/
inductive FlagMode where
  | clearBoth
  | both
  | carryOnly
  | auxOnly
deriving DecidableEq, Repr

/-- `SetFlagsAdd(a, b, cin, mode)`: the result and the new flags (`41_arithmetic.md` R161). -/
def setFlagsAdd (a b : Byte) (cin : Bool) (mode : FlagMode) (f : Flags) : Byte × Flags :=
  let r : Byte := BitVec.ofNat 8 (a.toNat + b.toNat + cin.toNat)
  let zsp := f.setZsp r
  match mode with
  | .clearBoth => (r, { zsp with cy := false, ac := false })
  | .both => (r, { zsp with cy := carryAt a b cin 8, ac := carryAt a b cin 4 })
  | .carryOnly => (r, { zsp with cy := carryAt a b cin 8 })
  | .auxOnly => (r, { zsp with ac := carryAt a b cin 4 })

/-- `SetFlagsSub(a, b, bin, mode)`: addition of the complement; in mode 1 the carry is inverted into a borrow, AC is not
inverted (`41_arithmetic.md` R162). -/
def setFlagsSub (a b : Byte) (bin : Bool) (mode : FlagMode) (f : Flags) : Byte × Flags :=
  let (r, g) := setFlagsAdd a (b ^^^ 0xFF) (!bin) mode f
  match mode with
  | .both => (r, { g with cy := !g.cy })
  | .clearBoth => (r, g)
  | .carryOnly => (r, g)
  | .auxOnly => (r, g)

/-- `LogicFlags(r)`: Z S P from the result, CY and AC cleared (`42_logical.md` R208; decision D13, entry 14). -/
def logicFlags (r : Byte) (f : Flags) : Flags := (setFlagsAdd r 0 false .clearBoth f).2

/-- `PackFlags()` (`10_state.md` R31). -/
def packFlags (f : Flags) : Byte :=
  BitVec.ofNat 8 (f.s.toNat * 128 + f.z.toNat * 64 + f.ac.toNat * 16 + f.p.toNat * 4 + 2 + f.cy.toNat)

/-- `UnpackFlags(b)`: bits 5, 3 and 1 have no effect (`10_state.md` R31). -/
def unpackFlags (b : Byte) : Flags where
  s := b.getLsbD 7
  z := b.getLsbD 6
  ac := b.getLsbD 4
  p := b.getLsbD 2
  cy := b.getLsbD 0

/-- `Cond(ccc)` (`43_control_transfer.md` R230). -/
def condHolds (cond : Cond) (f : Flags) : Bool :=
  match cond with
  | .nz => !f.z
  | .z => f.z
  | .nc => !f.cy
  | .c => f.cy
  | .po => !f.p
  | .pe => f.p
  | .p => !f.s
  | .m => f.s

end Sys2Proof.Machine
end

