-- ==== Sys2Proof/Machine/Arithmetic.lean ====
section
/-! DEFINITION. Arithmetic instructions (`41_arithmetic.md` R163 to R188). Each meaning starts with PC past the whole
instruction and its operand already read (`20_memory.md` R81). -/

namespace Sys2Proof.Machine

/-- An operation of the ALU group: the new A and the new flags from A, the operand and the flags. -/
abbrev AluFun := Byte → Byte → Flags → Byte × Flags

/-- ADD, ADI (R163, R186; decision D14, entry 15). -/
def aluAdd : AluFun := fun a v f => setFlagsAdd a v false .both f

/-- ADC, ACI (R165, R186; decision D14, entry 15). -/
def aluAdc : AluFun := fun a v f => setFlagsAdd a v f.cy .both f

/-- SUB, SUI (R169, R186; decision D14, entry 15). -/
def aluSub : AluFun := fun a v f => setFlagsSub a v false .both f

/-- SBB, SBI (R171, R186; decision D14, entry 15). -/
def aluSbb : AluFun := fun a v f => setFlagsSub a v f.cy .both f

/-- CMP, CPI: the flags of SUB, A not written (R175, R186; decision D14, entry 15). -/
def aluCmp : AluFun := fun a v f => (a, (setFlagsSub a v false .both f).2)

/-- The ALU group with an immediate operand: A and the flags are written. -/
def applyToAImm (op : AluFun) (v : Byte) (s : State) : Result :=
  let r := op (s.reg .a) v s.flags
  .next ((s.setReg .a r.1).setFlags r.2)

/-- The ALU group with a register or M as operand. -/
def applyToA (op : AluFun) (o : Operand) (s : State) : Result := orFault (rd8 o s) fun v => applyToAImm op v s

/-- DAD: HL plus a pair; CY is the carry out of bit 15, no other flag changes (R178; decision D18, entry 17). -/
def addToHl (p : PairSp) (s : State) : Result :=
  let sum := s.hl.toNat + (s.pairSp p).toNat
  .next ((s.setPair .hl (BitVec.ofNat 16 sum)).setFlags { s.flags with cy := sum.testBit 16 })

/-- INR: CY is not disturbed (R180, R181). -/
def incrementByte (o : Operand) (s : State) : Result :=
  orFault (rd8 o s) fun v =>
    let r := setFlagsAdd v 1 false .auxOnly s.flags
    .next ((wr8 o r.1 s).setFlags r.2)

/-- DCR: CY is not disturbed (R182, R183). -/
def decrementByte (o : Operand) (s : State) : Result :=
  orFault (rd8 o s) fun v =>
    let r := setFlagsSub v 1 false .auxOnly s.flags
    .next ((wr8 o r.1 s).setFlags r.2)

/-- INX (R184; decision D18, entry 17). -/
def incrementPair (p : PairSp) (s : State) : Result := .next (s.setPairSp p (s.pairSp p + 1))

/-- DCX (R185; decision D18, entry 17). -/
def decrementPair (p : PairSp) (s : State) : Result := .next (s.setPairSp p (s.pairSp p - 1))

/-- The first correction of DAA: 0x06 where the low nibble exceeds 9 or AC is set (R188). -/
def daaLow (a : Byte) (f : Flags) : Nat := if a.toNat % 16 > 9 || f.ac then 0x06 else 0

/-- Whether DAA makes the second correction: the high nibble of the untruncated sum exceeds 9, or CY is set (R188;
decision D16, entry 16). -/
def daaHigh (a : Byte) (f : Flags) : Bool := (a.toNat + daaLow a f) / 16 > 9 || f.cy

/-- DAA: the new A and flags. CY is set or left as it was, never cleared (R188; decision D16, entry 16). -/
def daaResult (a : Byte) (f : Flags) : Byte × Flags :=
  let corr := daaLow a f + if daaHigh a f then 0x60 else 0
  setFlagsAdd a (BitVec.ofNat 8 corr) false .auxOnly { f with cy := f.cy || daaHigh a f }

/-- DAA (R188). -/
def decimalAdjust (s : State) : Result :=
  let r := daaResult (s.reg .a) s.flags
  .next ((s.setReg .a r.1).setFlags r.2)

/-! ### One meaning for each instruction -/

/-- INX B (R184). -/
def execInxB (s : State) : Result := incrementPair .bc s

/-- INR B (R180). -/
def execInrB (s : State) : Result := incrementByte (.reg .b) s

/-- DCR B (R182). -/
def execDcrB (s : State) : Result := decrementByte (.reg .b) s

/-- DAD B (R178). -/
def execDadB (s : State) : Result := addToHl .bc s

/-- DCX B (R185). -/
def execDcxB (s : State) : Result := decrementPair .bc s

/-- INR C (R180). -/
def execInrC (s : State) : Result := incrementByte (.reg .c) s

/-- DCR C (R182). -/
def execDcrC (s : State) : Result := decrementByte (.reg .c) s

/-- INX D (R184). -/
def execInxD (s : State) : Result := incrementPair .de s

/-- INR D (R180). -/
def execInrD (s : State) : Result := incrementByte (.reg .d) s

/-- DCR D (R182). -/
def execDcrD (s : State) : Result := decrementByte (.reg .d) s

/-- DAD D (R178). -/
def execDadD (s : State) : Result := addToHl .de s

/-- DCX D (R185). -/
def execDcxD (s : State) : Result := decrementPair .de s

/-- INR E (R180). -/
def execInrE (s : State) : Result := incrementByte (.reg .e) s

/-- DCR E (R182). -/
def execDcrE (s : State) : Result := decrementByte (.reg .e) s

/-- INX H (R184). -/
def execInxH (s : State) : Result := incrementPair .hl s

/-- INR H (R180). -/
def execInrH (s : State) : Result := incrementByte (.reg .h) s

/-- DCR H (R182). -/
def execDcrH (s : State) : Result := decrementByte (.reg .h) s

/-- DAA (R188). -/
def execDaa (s : State) : Result := decimalAdjust s

/-- DAD H (R178). -/
def execDadH (s : State) : Result := addToHl .hl s

/-- DCX H (R185). -/
def execDcxH (s : State) : Result := decrementPair .hl s

/-- INR L (R180). -/
def execInrL (s : State) : Result := incrementByte (.reg .l) s

/-- DCR L (R182). -/
def execDcrL (s : State) : Result := decrementByte (.reg .l) s

/-- INX SP (R184). -/
def execInxSp (s : State) : Result := incrementPair .sp s

/-- INR M (R181). -/
def execInrM (s : State) : Result := incrementByte (.m) s

/-- DCR M (R183). -/
def execDcrM (s : State) : Result := decrementByte (.m) s

/-- DAD SP (R178). -/
def execDadSp (s : State) : Result := addToHl .sp s

/-- DCX SP (R185). -/
def execDcxSp (s : State) : Result := decrementPair .sp s

/-- INR A (R180). -/
def execInrA (s : State) : Result := incrementByte (.reg .a) s

/-- DCR A (R182). -/
def execDcrA (s : State) : Result := decrementByte (.reg .a) s

/-- ADD B (R163). -/
def execAddB (s : State) : Result := applyToA aluAdd (.reg .b) s

/-- ADD C (R163). -/
def execAddC (s : State) : Result := applyToA aluAdd (.reg .c) s

/-- ADD D (R163). -/
def execAddD (s : State) : Result := applyToA aluAdd (.reg .d) s

/-- ADD E (R163). -/
def execAddE (s : State) : Result := applyToA aluAdd (.reg .e) s

/-- ADD H (R163). -/
def execAddH (s : State) : Result := applyToA aluAdd (.reg .h) s

/-- ADD L (R163). -/
def execAddL (s : State) : Result := applyToA aluAdd (.reg .l) s

/-- ADD M (R164). -/
def execAddM (s : State) : Result := applyToA aluAdd (.m) s

/-- ADD A (R163). -/
def execAddA (s : State) : Result := applyToA aluAdd (.reg .a) s

/-- ADC B (R165). -/
def execAdcB (s : State) : Result := applyToA aluAdc (.reg .b) s

/-- ADC C (R165). -/
def execAdcC (s : State) : Result := applyToA aluAdc (.reg .c) s

/-- ADC D (R165). -/
def execAdcD (s : State) : Result := applyToA aluAdc (.reg .d) s

/-- ADC E (R165). -/
def execAdcE (s : State) : Result := applyToA aluAdc (.reg .e) s

/-- ADC H (R165). -/
def execAdcH (s : State) : Result := applyToA aluAdc (.reg .h) s

/-- ADC L (R165). -/
def execAdcL (s : State) : Result := applyToA aluAdc (.reg .l) s

/-- ADC M (R166). -/
def execAdcM (s : State) : Result := applyToA aluAdc (.m) s

/-- ADC A (R165). -/
def execAdcA (s : State) : Result := applyToA aluAdc (.reg .a) s

/-- SUB B (R169). -/
def execSubB (s : State) : Result := applyToA aluSub (.reg .b) s

/-- SUB C (R169). -/
def execSubC (s : State) : Result := applyToA aluSub (.reg .c) s

/-- SUB D (R169). -/
def execSubD (s : State) : Result := applyToA aluSub (.reg .d) s

/-- SUB E (R169). -/
def execSubE (s : State) : Result := applyToA aluSub (.reg .e) s

/-- SUB H (R169). -/
def execSubH (s : State) : Result := applyToA aluSub (.reg .h) s

/-- SUB L (R169). -/
def execSubL (s : State) : Result := applyToA aluSub (.reg .l) s

/-- SUB M (R170). -/
def execSubM (s : State) : Result := applyToA aluSub (.m) s

/-- SUB A (R169). -/
def execSubA (s : State) : Result := applyToA aluSub (.reg .a) s

/-- SBB B (R171). -/
def execSbbB (s : State) : Result := applyToA aluSbb (.reg .b) s

/-- SBB C (R171). -/
def execSbbC (s : State) : Result := applyToA aluSbb (.reg .c) s

/-- SBB D (R171). -/
def execSbbD (s : State) : Result := applyToA aluSbb (.reg .d) s

/-- SBB E (R171). -/
def execSbbE (s : State) : Result := applyToA aluSbb (.reg .e) s

/-- SBB H (R171). -/
def execSbbH (s : State) : Result := applyToA aluSbb (.reg .h) s

/-- SBB L (R171). -/
def execSbbL (s : State) : Result := applyToA aluSbb (.reg .l) s

/-- SBB M (R172). -/
def execSbbM (s : State) : Result := applyToA aluSbb (.m) s

/-- SBB A (R171). -/
def execSbbA (s : State) : Result := applyToA aluSbb (.reg .a) s

/-- CMP B (R175). -/
def execCmpB (s : State) : Result := applyToA aluCmp (.reg .b) s

/-- CMP C (R175). -/
def execCmpC (s : State) : Result := applyToA aluCmp (.reg .c) s

/-- CMP D (R175). -/
def execCmpD (s : State) : Result := applyToA aluCmp (.reg .d) s

/-- CMP E (R175). -/
def execCmpE (s : State) : Result := applyToA aluCmp (.reg .e) s

/-- CMP H (R175). -/
def execCmpH (s : State) : Result := applyToA aluCmp (.reg .h) s

/-- CMP L (R175). -/
def execCmpL (s : State) : Result := applyToA aluCmp (.reg .l) s

/-- CMP M (R176). -/
def execCmpM (s : State) : Result := applyToA aluCmp (.m) s

/-- CMP A (R175). -/
def execCmpA (s : State) : Result := applyToA aluCmp (.reg .a) s

/-- ADI d8 (R167). -/
def execAdi (d8 : Byte) (s : State) : Result := applyToAImm aluAdd d8 s

/-- ACI d8 (R168). -/
def execAci (d8 : Byte) (s : State) : Result := applyToAImm aluAdc d8 s

/-- SUI d8 (R173). -/
def execSui (d8 : Byte) (s : State) : Result := applyToAImm aluSub d8 s

/-- SBI d8 (R174). -/
def execSbi (d8 : Byte) (s : State) : Result := applyToAImm aluSbb d8 s

/-- CPI d8 (R177). -/
def execCpi (d8 : Byte) (s : State) : Result := applyToAImm aluCmp d8 s

end Sys2Proof.Machine
end

