-- ==== Sys2Proof/Machine/ControlTransfer.lean ====
section
/-! DEFINITION. Control transfer instructions (`43_control_transfer.md` R230 to R239). No flag and no register but PC and SP
is written. Each meaning starts with PC past the whole instruction, so PC is the return address. -/

namespace Sys2Proof.Machine

/-- JMP and PCHL (R231, R238). -/
def jump (target : Word) (s : State) : Result := .next (s.setPc target)

/-- Jcc (R232). -/
def jumpIf (cond : Cond) (target : Word) (s : State) : Result :=
  .next (if condHolds cond s.flags then s.setPc target else s)

/-- CALL (R233). -/
def call (target : Word) (s : State) : Result := .next (callTo target s)

/-- Ccc: a taken call costs `TAKEN_EXTRA` more (R234). -/
def callIf (cond : Cond) (target : Word) (s : State) : Result :=
  .next (if condHolds cond s.flags then (callTo target s).addClock s.config.takenExtra else s)

/-- Rcc: a taken return costs `TAKEN_EXTRA` more; one not taken reads no memory (R236). -/
def returnIf (cond : Cond) (s : State) : Result :=
  if condHolds cond s.flags then returnToCaller (s.addClock s.config.takenExtra) else .next s

/-- RST n: a call to address `8 * n` (R237). -/
def restart (n : Fin 8) (s : State) : Result := .next (callTo (BitVec.ofNat 16 (8 * n)) s)

/-! ### One meaning for each instruction -/

/-- RNZ (R236). -/
def execRnz (s : State) : Result := returnIf .nz s

/-- JNZ a16 (R232). -/
def execJnz (a16 : Word) (s : State) : Result := jumpIf .nz a16 s

/-- JMP a16 (R231). -/
def execJmp (a16 : Word) (s : State) : Result := jump a16 s

/-- CNZ a16 (R234). -/
def execCnz (a16 : Word) (s : State) : Result := callIf .nz a16 s

/-- RST 0 (R237). -/
def execRst0 (s : State) : Result := restart 0 s

/-- RZ (R236). -/
def execRz (s : State) : Result := returnIf .z s

/-- RET 0xC9 (R235). -/
def execRet (s : State) : Result := returnToCaller s

/-- JZ a16 (R232). -/
def execJz (a16 : Word) (s : State) : Result := jumpIf .z a16 s

/-- CZ a16 (R234). -/
def execCz (a16 : Word) (s : State) : Result := callIf .z a16 s

/-- CALL a16 (R233). -/
def execCall (a16 : Word) (s : State) : Result := call a16 s

/-- RST 1 (R237). -/
def execRst1 (s : State) : Result := restart 1 s

/-- RNC (R236). -/
def execRnc (s : State) : Result := returnIf .nc s

/-- JNC a16 (R232). -/
def execJnc (a16 : Word) (s : State) : Result := jumpIf .nc a16 s

/-- CNC a16 (R234). -/
def execCnc (a16 : Word) (s : State) : Result := callIf .nc a16 s

/-- RST 2 (R237). -/
def execRst2 (s : State) : Result := restart 2 s

/-- RC (R236). -/
def execRc (s : State) : Result := returnIf .c s

/-- JC a16 (R232). -/
def execJc (a16 : Word) (s : State) : Result := jumpIf .c a16 s

/-- CC a16 (R234). -/
def execCc (a16 : Word) (s : State) : Result := callIf .c a16 s

/-- RST 3 (R237). -/
def execRst3 (s : State) : Result := restart 3 s

/-- RPO (R236). -/
def execRpo (s : State) : Result := returnIf .po s

/-- JPO a16 (R232). -/
def execJpo (a16 : Word) (s : State) : Result := jumpIf .po a16 s

/-- CPO a16 (R234). -/
def execCpo (a16 : Word) (s : State) : Result := callIf .po a16 s

/-- RST 4 (R237). -/
def execRst4 (s : State) : Result := restart 4 s

/-- RPE (R236). -/
def execRpe (s : State) : Result := returnIf .pe s

/-- PCHL (R238). -/
def execPchl (s : State) : Result := jump s.hl s

/-- JPE a16 (R232). -/
def execJpe (a16 : Word) (s : State) : Result := jumpIf .pe a16 s

/-- CPE a16 (R234). -/
def execCpe (a16 : Word) (s : State) : Result := callIf .pe a16 s

/-- RST 5 (R237). -/
def execRst5 (s : State) : Result := restart 5 s

/-- RP (R236). -/
def execRp (s : State) : Result := returnIf .p s

/-- JP a16 (R232). -/
def execJp (a16 : Word) (s : State) : Result := jumpIf .p a16 s

/-- CP a16 (R234). -/
def execCp (a16 : Word) (s : State) : Result := callIf .p a16 s

/-- RST 6 (R237). -/
def execRst6 (s : State) : Result := restart 6 s

/-- RM (R236). -/
def execRm (s : State) : Result := returnIf .m s

/-- JM a16 (R232). -/
def execJm (a16 : Word) (s : State) : Result := jumpIf .m a16 s

/-- CM a16 (R234). -/
def execCm (a16 : Word) (s : State) : Result := callIf .m a16 s

/-- RST 7 (R237). -/
def execRst7 (s : State) : Result := restart 7 s

end Sys2Proof.Machine
end

