-- ==== Sys2Proof/Machine/DataTransfer.lean ====
section
/-! DEFINITION. Data transfer instructions (`40_data_transfer.md` R130 to R143). No flag is written. Each meaning starts with
PC past the whole instruction and its operand already read (`20_memory.md` R81). -/

namespace Sys2Proof.Machine

/-- MOV: read the source, then write the destination (R130 to R132). -/
def moveByte (dst src : Operand) (s : State) : Result := orFault (rd8 src s) fun v => .next (wr8 dst v s)

/-- MVI (R133, R134). -/
def moveImm (dst : Operand) (v : Byte) (s : State) : Result := .next (wr8 dst v s)

/-- LDAX and LDA: A from the byte at an address (R135, R137). -/
def loadA (addr : Word) (s : State) : Result := orFault (readByte s addr) fun v => .next (s.setReg .a v)

/-- STAX and STA: A to the byte at an address (R136, R138). -/
def storeA (addr : Word) (s : State) : Result := .next (writeByte addr (s.reg .a) s)

/-- LXI (R139). -/
def loadPairImm (p : PairSp) (v : Word) (s : State) : Result := .next (s.setPairSp p v)

/-- LHLD (R140). -/
def loadHl (addr : Word) (s : State) : Result := orFault (readWord s addr) fun v => .next (s.setPair .hl v)

/-- SHLD (R141). -/
def storeHl (addr : Word) (s : State) : Result := .next (writeWord addr s.hl s)

/-- XCHG (R142). -/
def exchangeDeHl (s : State) : Result := .next ((s.setPair .hl (s.pair .de)).setPair .de s.hl)

/-- XTHL: the word at SP is read, HL is written there, and HL takes the word read (R143). -/
def exchangeStackHl (s : State) : Result :=
  orFault (readWord s s.sp) fun t => .next ((writeWord s.sp s.hl s).setPair .hl t)

/-! ### One meaning for each instruction -/

/-- LXI B,d16 (R139). -/
def execLxiB (d16 : Word) (s : State) : Result := loadPairImm .bc d16 s

/-- STAX B (R136). -/
def execStaxB (s : State) : Result := storeA (s.bcDe .bc) s

/-- MVI B,d8 (R133). -/
def execMviB (d8 : Byte) (s : State) : Result := moveImm (.reg .b) d8 s

/-- LDAX B (R135). -/
def execLdaxB (s : State) : Result := loadA (s.bcDe .bc) s

/-- MVI C,d8 (R133). -/
def execMviC (d8 : Byte) (s : State) : Result := moveImm (.reg .c) d8 s

/-- LXI D,d16 (R139). -/
def execLxiD (d16 : Word) (s : State) : Result := loadPairImm .de d16 s

/-- STAX D (R136). -/
def execStaxD (s : State) : Result := storeA (s.bcDe .de) s

/-- MVI D,d8 (R133). -/
def execMviD (d8 : Byte) (s : State) : Result := moveImm (.reg .d) d8 s

/-- LDAX D (R135). -/
def execLdaxD (s : State) : Result := loadA (s.bcDe .de) s

/-- MVI E,d8 (R133). -/
def execMviE (d8 : Byte) (s : State) : Result := moveImm (.reg .e) d8 s

/-- LXI H,d16 (R139). -/
def execLxiH (d16 : Word) (s : State) : Result := loadPairImm .hl d16 s

/-- SHLD a16 (R141). -/
def execShld (a16 : Word) (s : State) : Result := storeHl a16 s

/-- MVI H,d8 (R133). -/
def execMviH (d8 : Byte) (s : State) : Result := moveImm (.reg .h) d8 s

/-- LHLD a16 (R140). -/
def execLhld (a16 : Word) (s : State) : Result := loadHl a16 s

/-- MVI L,d8 (R133). -/
def execMviL (d8 : Byte) (s : State) : Result := moveImm (.reg .l) d8 s

/-- LXI SP,d16 (R139). -/
def execLxiSp (d16 : Word) (s : State) : Result := loadPairImm .sp d16 s

/-- STA a16 (R138). -/
def execSta (a16 : Word) (s : State) : Result := storeA a16 s

/-- MVI M,d8 (R134). -/
def execMviM (d8 : Byte) (s : State) : Result := moveImm (.m) d8 s

/-- LDA a16 (R137). -/
def execLda (a16 : Word) (s : State) : Result := loadA a16 s

/-- MVI A,d8 (R133). -/
def execMviA (d8 : Byte) (s : State) : Result := moveImm (.reg .a) d8 s

/-- MOV B,B (R130). -/
def execMovBB (s : State) : Result := moveByte (.reg .b) (.reg .b) s

/-- MOV B,C (R130). -/
def execMovBC (s : State) : Result := moveByte (.reg .b) (.reg .c) s

/-- MOV B,D (R130). -/
def execMovBD (s : State) : Result := moveByte (.reg .b) (.reg .d) s

/-- MOV B,E (R130). -/
def execMovBE (s : State) : Result := moveByte (.reg .b) (.reg .e) s

/-- MOV B,H (R130). -/
def execMovBH (s : State) : Result := moveByte (.reg .b) (.reg .h) s

/-- MOV B,L (R130). -/
def execMovBL (s : State) : Result := moveByte (.reg .b) (.reg .l) s

/-- MOV B,M (R131). -/
def execMovBM (s : State) : Result := moveByte (.reg .b) (.m) s

/-- MOV B,A (R130). -/
def execMovBA (s : State) : Result := moveByte (.reg .b) (.reg .a) s

/-- MOV C,B (R130). -/
def execMovCB (s : State) : Result := moveByte (.reg .c) (.reg .b) s

/-- MOV C,C (R130). -/
def execMovCC (s : State) : Result := moveByte (.reg .c) (.reg .c) s

/-- MOV C,D (R130). -/
def execMovCD (s : State) : Result := moveByte (.reg .c) (.reg .d) s

/-- MOV C,E (R130). -/
def execMovCE (s : State) : Result := moveByte (.reg .c) (.reg .e) s

/-- MOV C,H (R130). -/
def execMovCH (s : State) : Result := moveByte (.reg .c) (.reg .h) s

/-- MOV C,L (R130). -/
def execMovCL (s : State) : Result := moveByte (.reg .c) (.reg .l) s

/-- MOV C,M (R131). -/
def execMovCM (s : State) : Result := moveByte (.reg .c) (.m) s

/-- MOV C,A (R130). -/
def execMovCA (s : State) : Result := moveByte (.reg .c) (.reg .a) s

/-- MOV D,B (R130). -/
def execMovDB (s : State) : Result := moveByte (.reg .d) (.reg .b) s

/-- MOV D,C (R130). -/
def execMovDC (s : State) : Result := moveByte (.reg .d) (.reg .c) s

/-- MOV D,D (R130). -/
def execMovDD (s : State) : Result := moveByte (.reg .d) (.reg .d) s

/-- MOV D,E (R130). -/
def execMovDE (s : State) : Result := moveByte (.reg .d) (.reg .e) s

/-- MOV D,H (R130). -/
def execMovDH (s : State) : Result := moveByte (.reg .d) (.reg .h) s

/-- MOV D,L (R130). -/
def execMovDL (s : State) : Result := moveByte (.reg .d) (.reg .l) s

/-- MOV D,M (R131). -/
def execMovDM (s : State) : Result := moveByte (.reg .d) (.m) s

/-- MOV D,A (R130). -/
def execMovDA (s : State) : Result := moveByte (.reg .d) (.reg .a) s

/-- MOV E,B (R130). -/
def execMovEB (s : State) : Result := moveByte (.reg .e) (.reg .b) s

/-- MOV E,C (R130). -/
def execMovEC (s : State) : Result := moveByte (.reg .e) (.reg .c) s

/-- MOV E,D (R130). -/
def execMovED (s : State) : Result := moveByte (.reg .e) (.reg .d) s

/-- MOV E,E (R130). -/
def execMovEE (s : State) : Result := moveByte (.reg .e) (.reg .e) s

/-- MOV E,H (R130). -/
def execMovEH (s : State) : Result := moveByte (.reg .e) (.reg .h) s

/-- MOV E,L (R130). -/
def execMovEL (s : State) : Result := moveByte (.reg .e) (.reg .l) s

/-- MOV E,M (R131). -/
def execMovEM (s : State) : Result := moveByte (.reg .e) (.m) s

/-- MOV E,A (R130). -/
def execMovEA (s : State) : Result := moveByte (.reg .e) (.reg .a) s

/-- MOV H,B (R130). -/
def execMovHB (s : State) : Result := moveByte (.reg .h) (.reg .b) s

/-- MOV H,C (R130). -/
def execMovHC (s : State) : Result := moveByte (.reg .h) (.reg .c) s

/-- MOV H,D (R130). -/
def execMovHD (s : State) : Result := moveByte (.reg .h) (.reg .d) s

/-- MOV H,E (R130). -/
def execMovHE (s : State) : Result := moveByte (.reg .h) (.reg .e) s

/-- MOV H,H (R130). -/
def execMovHH (s : State) : Result := moveByte (.reg .h) (.reg .h) s

/-- MOV H,L (R130). -/
def execMovHL (s : State) : Result := moveByte (.reg .h) (.reg .l) s

/-- MOV H,M (R131). -/
def execMovHM (s : State) : Result := moveByte (.reg .h) (.m) s

/-- MOV H,A (R130). -/
def execMovHA (s : State) : Result := moveByte (.reg .h) (.reg .a) s

/-- MOV L,B (R130). -/
def execMovLB (s : State) : Result := moveByte (.reg .l) (.reg .b) s

/-- MOV L,C (R130). -/
def execMovLC (s : State) : Result := moveByte (.reg .l) (.reg .c) s

/-- MOV L,D (R130). -/
def execMovLD (s : State) : Result := moveByte (.reg .l) (.reg .d) s

/-- MOV L,E (R130). -/
def execMovLE (s : State) : Result := moveByte (.reg .l) (.reg .e) s

/-- MOV L,H (R130). -/
def execMovLH (s : State) : Result := moveByte (.reg .l) (.reg .h) s

/-- MOV L,L (R130). -/
def execMovLL (s : State) : Result := moveByte (.reg .l) (.reg .l) s

/-- MOV L,M (R131). -/
def execMovLM (s : State) : Result := moveByte (.reg .l) (.m) s

/-- MOV L,A (R130). -/
def execMovLA (s : State) : Result := moveByte (.reg .l) (.reg .a) s

/-- MOV M,B (R132). -/
def execMovMB (s : State) : Result := moveByte (.m) (.reg .b) s

/-- MOV M,C (R132). -/
def execMovMC (s : State) : Result := moveByte (.m) (.reg .c) s

/-- MOV M,D (R132). -/
def execMovMD (s : State) : Result := moveByte (.m) (.reg .d) s

/-- MOV M,E (R132). -/
def execMovME (s : State) : Result := moveByte (.m) (.reg .e) s

/-- MOV M,H (R132). -/
def execMovMH (s : State) : Result := moveByte (.m) (.reg .h) s

/-- MOV M,L (R132). -/
def execMovML (s : State) : Result := moveByte (.m) (.reg .l) s

/-- MOV M,A (R132). -/
def execMovMA (s : State) : Result := moveByte (.m) (.reg .a) s

/-- MOV A,B (R130). -/
def execMovAB (s : State) : Result := moveByte (.reg .a) (.reg .b) s

/-- MOV A,C (R130). -/
def execMovAC (s : State) : Result := moveByte (.reg .a) (.reg .c) s

/-- MOV A,D (R130). -/
def execMovAD (s : State) : Result := moveByte (.reg .a) (.reg .d) s

/-- MOV A,E (R130). -/
def execMovAE (s : State) : Result := moveByte (.reg .a) (.reg .e) s

/-- MOV A,H (R130). -/
def execMovAH (s : State) : Result := moveByte (.reg .a) (.reg .h) s

/-- MOV A,L (R130). -/
def execMovAL (s : State) : Result := moveByte (.reg .a) (.reg .l) s

/-- MOV A,M (R131). -/
def execMovAM (s : State) : Result := moveByte (.reg .a) (.m) s

/-- MOV A,A (R130). -/
def execMovAA (s : State) : Result := moveByte (.reg .a) (.reg .a) s

/-- XTHL (R143). -/
def execXthl (s : State) : Result := exchangeStackHl s

/-- XCHG (R142). -/
def execXchg (s : State) : Result := exchangeDeHl s

end Sys2Proof.Machine
end

