-- ==== Sys2Proof/Machine/Logical.lean ====
section
/-! DEFINITION. Complement, carry, rotate and logical instructions (`42_logical.md` R200 to R218). Only A and flags are
written. -/

namespace Sys2Proof.Machine

/-- ANA, ANI (R208, R210; decision D13, entry 14). -/
def aluAna : AluFun := fun a v f => (a &&& v, logicFlags (a &&& v) f)

/-- XRA, XRI (R208, R212; decision D13, entry 14). -/
def aluXra : AluFun := fun a v f => (a ^^^ v, logicFlags (a ^^^ v) f)

/-- ORA, ORI (R208, R214; decision D13, entry 14). -/
def aluOra : AluFun := fun a v f => (a ||| v, logicFlags (a ||| v) f)

/-- CMA (R200; decision D18, entry 17). -/
def complementA (s : State) : Result := .next (s.setReg .a (s.reg .a ^^^ 0xFF))

/-- STC and CMC: CY alone is written (R201, R202; decision D18, entry 17). -/
def setCarry (b : Bool) (s : State) : Result := .next (s.setFlags { s.flags with cy := b })

/-- RLC and RAL: A one bit to the left, `into` comes in at bit 0, the old bit 7 goes to CY (R204, R206). -/
def rotateLeft (into : Bool) (s : State) : Result :=
  let a := s.reg .a
  .next ((s.setReg .a ((a <<< 1) ||| BitVec.ofNat 8 into.toNat)).setFlags { s.flags with cy := a.getLsbD 7 })

/-- RRC and RAR: A one bit to the right, `into` comes in at bit 7, the old bit 0 goes to CY (R205, R207). -/
def rotateRight (into : Bool) (s : State) : Result :=
  let a := s.reg .a
  .next ((s.setReg .a ((a >>> 1) ||| (BitVec.ofNat 8 into.toNat <<< 7))).setFlags
    { s.flags with cy := a.getLsbD 0 })

/-! ### One meaning for each instruction -/

/-- RLC (R204). -/
def execRlc (s : State) : Result := rotateLeft (s.regs.a.getLsbD 7) s

/-- RRC (R205). -/
def execRrc (s : State) : Result := rotateRight (s.regs.a.getLsbD 0) s

/-- RAL (R206). -/
def execRal (s : State) : Result := rotateLeft s.flags.cy s

/-- RAR (R207). -/
def execRar (s : State) : Result := rotateRight s.flags.cy s

/-- CMA (R200). -/
def execCma (s : State) : Result := complementA s

/-- STC (R201). -/
def execStc (s : State) : Result := setCarry true s

/-- CMC (R202). -/
def execCmc (s : State) : Result := setCarry (!s.flags.cy) s

/-- ANA B (R210). -/
def execAnaB (s : State) : Result := applyToA aluAna (.reg .b) s

/-- ANA C (R210). -/
def execAnaC (s : State) : Result := applyToA aluAna (.reg .c) s

/-- ANA D (R210). -/
def execAnaD (s : State) : Result := applyToA aluAna (.reg .d) s

/-- ANA E (R210). -/
def execAnaE (s : State) : Result := applyToA aluAna (.reg .e) s

/-- ANA H (R210). -/
def execAnaH (s : State) : Result := applyToA aluAna (.reg .h) s

/-- ANA L (R210). -/
def execAnaL (s : State) : Result := applyToA aluAna (.reg .l) s

/-- ANA M (R211). -/
def execAnaM (s : State) : Result := applyToA aluAna (.m) s

/-- ANA A (R210). -/
def execAnaA (s : State) : Result := applyToA aluAna (.reg .a) s

/-- XRA B (R212). -/
def execXraB (s : State) : Result := applyToA aluXra (.reg .b) s

/-- XRA C (R212). -/
def execXraC (s : State) : Result := applyToA aluXra (.reg .c) s

/-- XRA D (R212). -/
def execXraD (s : State) : Result := applyToA aluXra (.reg .d) s

/-- XRA E (R212). -/
def execXraE (s : State) : Result := applyToA aluXra (.reg .e) s

/-- XRA H (R212). -/
def execXraH (s : State) : Result := applyToA aluXra (.reg .h) s

/-- XRA L (R212). -/
def execXraL (s : State) : Result := applyToA aluXra (.reg .l) s

/-- XRA M (R213). -/
def execXraM (s : State) : Result := applyToA aluXra (.m) s

/-- XRA A (R212). -/
def execXraA (s : State) : Result := applyToA aluXra (.reg .a) s

/-- ORA B (R214). -/
def execOraB (s : State) : Result := applyToA aluOra (.reg .b) s

/-- ORA C (R214). -/
def execOraC (s : State) : Result := applyToA aluOra (.reg .c) s

/-- ORA D (R214). -/
def execOraD (s : State) : Result := applyToA aluOra (.reg .d) s

/-- ORA E (R214). -/
def execOraE (s : State) : Result := applyToA aluOra (.reg .e) s

/-- ORA H (R214). -/
def execOraH (s : State) : Result := applyToA aluOra (.reg .h) s

/-- ORA L (R214). -/
def execOraL (s : State) : Result := applyToA aluOra (.reg .l) s

/-- ORA M (R215). -/
def execOraM (s : State) : Result := applyToA aluOra (.m) s

/-- ORA A (R214). -/
def execOraA (s : State) : Result := applyToA aluOra (.reg .a) s

/-- ANI d8 (R216). -/
def execAni (d8 : Byte) (s : State) : Result := applyToAImm aluAna d8 s

/-- XRI d8 (R217). -/
def execXri (d8 : Byte) (s : State) : Result := applyToAImm aluXra d8 s

/-- ORI d8 (R218). -/
def execOri (d8 : Byte) (s : State) : Result := applyToAImm aluOra d8 s

end Sys2Proof.Machine
end

