-- ==== Sys2Proof/Machine/StackIo.lean ====
section
/-! DEFINITION. Stack, I/O and machine control (`44_stack_io_control.md` R260 to R280) and the shift peripheral
(`60_exceptions.md` R325). -/

namespace Sys2Proof.Machine

/-- PUSH rp (R263). -/
def pushPair (p : RegPair) (s : State) : Result := .next (push16 (s.pair p) s)

/-- POP rp (R266). -/
def popPair (p : RegPair) (s : State) : Result := orFault (pop16 s) fun r => .next (r.2.setPair p r.1)

/-- PUSH PSW: A in the high byte, the packed flags in the low byte (R264). -/
def pushFlagsWord (s : State) : Result := .next (push16 (wordOf (s.reg .a) (packFlags s.flags)) s)

/-- POP PSW (R267). -/
def popFlagsWord (s : State) : Result :=
  orFault (pop16 s) fun r => .next ((r.2.setReg .a (highByte r.1)).setFlags (unpackFlags (lowByte r.1)))

/-- What `IN 3` returns: eight bits of the shift register at the offset (`60_exceptions.md` R325; decision D27, entry 26). -/
def shifterResult (s : State) : Byte := (s.shiftReg >>> (8 - s.shiftOfs.toNat)).setWidth 8

/-- The value `IN p` reads: the bank for ports 0 to 2, the shifter for port 3, and no port from 4 on (R274). -/
def readPort (p : Byte) (s : State) : Except Fault Byte :=
  if p = 3 then .ok (shifterResult s)
  else if h : p.toNat ≤ 2 then .ok (s.inPort[p.toNat]'(by omega))
  else .error (.portRange .input p)

/-- `OUT p` of a value: the shifter for ports 2 and 4, the bank for 0, 1, 3, 5 and 6, and no port from 7 on (R275). -/
def writePort (p : Byte) (v : Byte) (s : State) : Except Fault State :=
  if p = 2 then .ok (s.setShiftOfs (v.setWidth 3))
  else if p = 4 then .ok (s.setShiftReg ((s.shiftReg >>> 8) ||| (v.setWidth 16 <<< 8)))
  else if h : p.toNat ≤ 6 then .ok (s.setOutPort ⟨p.toNat, by omega⟩ v)
  else .error (.portRange .output p)

/-- IN p8 (R274). -/
def inputToA (p : Byte) (s : State) : Result := orFault (readPort p s) fun v => .next (s.setReg .a v)

/-- OUT p8 (R275). -/
def outputFromA (p : Byte) (s : State) : Result := orFault (writePort p (s.reg .a) s) fun t => .next t

/-- NOP and its aliases (R276, R277). -/
def noOperation (s : State) : Result := .next s

/-- An opcode with no defined case: a record, and nothing else (R280). -/
def reportUnknown (op : Byte) (s : State) : Result := .next (s.report op)

/-! ### One meaning for each instruction -/

/-- NOP 0x00 (R276). -/
def execNop (s : State) : Result := noOperation s

/-- NOP 0x08 (R277). -/
def execNop08 (s : State) : Result := noOperation s

/-- NOP 0x10 (R277). -/
def execNop10 (s : State) : Result := noOperation s

/-- NOP 0x18 (R277). -/
def execNop18 (s : State) : Result := noOperation s

/-- NOP 0x20 (R277). -/
def execNop20 (s : State) : Result := noOperation s

/-- NOP 0x28 (R277). -/
def execNop28 (s : State) : Result := noOperation s

/-- NOP 0x30 (R277). -/
def execNop30 (s : State) : Result := noOperation s

/-- NOP 0x38 (R277). -/
def execNop38 (s : State) : Result := noOperation s

/-- HLT (R279). -/
def execHlt (s : State) : Result := .next (s.setHalted true)

/-- POP B (R266). -/
def execPopB (s : State) : Result := popPair .bc s

/-- PUSH B (R263). -/
def execPushB (s : State) : Result := pushPair .bc s

/-- UNDEFINED 0xCB (R280). -/
def execUndefCB (s : State) : Result := reportUnknown 0xCB s

/-- POP D (R266). -/
def execPopD (s : State) : Result := popPair .de s

/-- OUT p8 (R275). -/
def execOut (p8 : Byte) (s : State) : Result := outputFromA p8 s

/-- PUSH D (R263). -/
def execPushD (s : State) : Result := pushPair .de s

/-- RET 0xD9 (R278). -/
def execRetD9 (s : State) : Result := returnToCaller s

/-- IN p8 (R274). -/
def execInp (p8 : Byte) (s : State) : Result := inputToA p8 s

/-- UNDEFINED 0xDD (R280). -/
def execUndefDD (s : State) : Result := reportUnknown 0xDD s

/-- POP H (R266). -/
def execPopH (s : State) : Result := popPair .hl s

/-- PUSH H (R263). -/
def execPushH (s : State) : Result := pushPair .hl s

/-- UNDEFINED 0xED (R280). -/
def execUndefED (s : State) : Result := reportUnknown 0xED s

/-- POP PSW (R267). -/
def execPopPsw (s : State) : Result := popFlagsWord s

/-- DI (R271). -/
def execDi (s : State) : Result := .next (s.setIe false)

/-- PUSH PSW (R264). -/
def execPushPsw (s : State) : Result := pushFlagsWord s

/-- SPHL (R269). -/
def execSphl (s : State) : Result := .next (s.setSp s.hl)

/-- EI (R270). -/
def execEi (s : State) : Result := .next (s.setIe true)

/-- UNDEFINED 0xFD (R280). -/
def execUndefFD (s : State) : Result := reportUnknown 0xFD s

end Sys2Proof.Machine
end

