-- ==== Sys2Proof/Machine/Clock.lean ====
section
/-! DEFINITION. `Execute(op)` and `Clock()`, the console traps, and the interrupt call (`60_exceptions.md`). -/

namespace Sys2Proof.Machine

/-! ### Execute -/

/-- Read the operand an opcode byte asks for and run the instruction. PC is past the opcode byte. -/
def dispatch (op : Byte) (s : State) : Result :=
  match opcodeMap op with
  | .f1 i => exec i s
  | .f2 make => orFault (fetch8 s) fun r => exec (make r.1) r.2
  | .f3 make => orFault (fetch16 s) fun r => exec (make r.1) r.2

/-- `Execute(op)`: the base cost is added, then the opcode is dispatched (`60_exceptions.md` R292). -/
def execute (op : Byte) (s : State) : Result := dispatch op (s.addClock (s.cost op))

/-! ### Console traps -/

/-- The `$` that ends a printed string (`60_exceptions.md` R312). -/
def stringTerminator : Byte := 0x24

/-- The bytes the print call emits from `addr` on, reading at most `fuel` bytes (`60_exceptions.md` R312, R314). -/
def scanString (s : State) : Nat → Word → Host.Outcome (List Byte) Fault Refusal
  | 0, _ => .refused .unterminatedString
  | fuel + 1, addr =>
    match readByte s addr with
    | .error f => .fault f
    | .ok b =>
      if b = stringTerminator then .next []
      else
        match scanString s fuel (addr + 1) with
        | .next bs => .next (b :: bs)
        | .fault f => .fault f
        | .refused r => .refused r

/-- `ConsoleCall()`: C selects, 2 prints E, 9 prints the string at DE, anything else does nothing (`60_exceptions.md`
R312; decision D23, entry 19). -/
def consoleCall (s : State) : Result :=
  if s.reg .c = 2 then .next (s.emit [s.reg .e])
  else if s.reg .c = 9 then
    match scanString s 65536 (s.pair .de) with
    | .next bs => .next (s.emit bs)
    | .fault f => .fault f
    | .refused r => .refused r
  else .next s

/-- Console mode with PC at the exit trap (`60_exceptions.md` R311). -/
def atExitTrap (s : State) : Bool := s.config.mode == .console && s.pc == 0x0000

/-- Console mode with PC at the call trap (`60_exceptions.md` R312). -/
def atCallTrap (s : State) : Bool := s.config.mode == .console && s.pc == 0x0005

/-- What happens before the fetch: the console call, where the call trap is reached (`60_exceptions.md` R290, R313). -/
def beforeFetch (s : State) : Result := if atCallTrap s then consoleCall s else .next s

/-! ### Clock -/

/-- Count one fetched instruction, modulo 2^64 (`60_exceptions.md` R320; decision D21, entry 21). -/
def countInstruction (s : State) : State := s.setInstructionCount (s.instructionCount + 1)

/-- Fetch the opcode at PC, count the instruction and execute (`60_exceptions.md` R290, R291). -/
def fetchExecute (s : State) : Result :=
  orFault (fetch8 s) fun r => execute r.1 (countInstruction r.2)

/-- `Clock()` (`60_exceptions.md` R290; decision D12, entry 12). -/
def clock (s : State) : Result :=
  if s.halted then .next s
  else if atExitTrap s then .next (s.setHalted true)
  else
    match beforeFetch s with
    | .next t => fetchExecute t
    | .fault f => .fault f
    | .refused r => .refused r

/-! ### Placing an instruction -/

/-- Put bytes where the fetch will read them, from a logical address on, past write protection, as `Load` does
(`20_memory.md` R72; entry 23). An unmapped address takes no byte. -/
def placeBytes (s : State) : Word → List Byte → State
  | _, [] => s
  | addr, v :: vs =>
    match resolve s.config.mode addr with
    | some c => placeBytes (s.setStore (s.store.write c v)) (addr + 1) vs
    | none => placeBytes s (addr + 1) vs

end Sys2Proof.Machine
end

