-- ==== Sys2Proof/Machine/Step.lean ====
section
/-! DEFINITION. The step of the machine: one `Clock()` (`60_exceptions.md` R290). -/

namespace Sys2Proof.Machine

/-- One step: `Clock()`. -/
def step (s : State) : Host.Outcome State Fault Refusal := clock s

/-- The state with an instruction placed where the next step fetches it: its bytes stand from PC on and the machine is
not halted (entry 23). In console mode an instruction at 0x0000 is never fetched (`60_exceptions.md` R311). -/
def State.withFetchWord (s : State) (nbits w : Nat) : State :=
  (placeBytes s s.pc (tableWordBytes nbits w)).setHalted false

end Sys2Proof.Machine
end

