-- ==== Sys2Proof/Machine/HostInterface.lean ====
section
/-! DEFINITION. The interface of the block (`00_scope.md` R6): the host's calls, which happen between two steps
(`60_exceptions.md` R293), and its reads. -/

namespace Sys2Proof.Machine

/-- `Interrupt(id)`: refused for another id, nothing at all while IE is 0, else the entry (`60_exceptions.md` R300). It does
not look at `Halted` (R304). -/
def interrupt (id : Nat) (s : State) : Result :=
  if interruptIdValid id then
    if s.ie then .next (takeInterrupt id s) else .next s
  else .refused (.interruptId id)

/-- `Load(buffer, address)`: straight into the store, past write protection (`20_memory.md` R72; decision D7, entry 10). -/
def load (address : Word) (buffer : List Byte) (s : State) : Result :=
  if loadInRange s.config.mode address buffer.length then
    .next (s.setStore (s.store.writeRun address.toNat buffer))
  else .refused (.loadOutOfRange address buffer.length)

/-- One call of the host (`00_scope.md` R6). -/
def perform (op : HostOp) (s : State) : Result :=
  match op with
  | .load address buffer => load address buffer s
  | .clock => step s
  | .interrupt id => interrupt id s
  | .setInPort i v => .next (s.setInPort i v)
  | .resetClockCount => .next (s.setClockCount 0)
  | .resetInstructionCount => .next (s.setInstructionCount 0)

/-- The host's read of `OutPort[i]` (`10_state.md` R36). -/
def readOutPort (i : Fin 7) (s : State) : Byte := s.outPort[i]

/-- The video memory view, a read of the store (`20_memory.md` R73). -/
def videoView (s : State) : List Byte := (List.range vramSize).map fun k => s.store.read (vramBase + k)

end Sys2Proof.Machine
end

