-- ==== Sys2Proof/Safety.lean ====
section
/-! DEFINITION. The terms in which the statements speak of the machine: what a safe state and a safe step are, what can be
read and written, how two states agree but for named parts, and the kinds of instruction the whole-machine rules name. -/

namespace Sys2Proof.Machine

/-! ### Safe states and steps -/

/-- The invariant of the state: the store is in canonical form (entry 5). -/
abbrev State.Inv (s : State) : Prop := s.store.wf = true

/-- A step that ends in a next state. -/
abbrev StepsTo (s t : State) : Prop := step s = .next t

/-- A run of host calls, each of which ends in a next state. -/
inductive Reaches : State → State → Prop where
  | refl (s : State) : Reaches s s
  | call {s t u : State} (op : HostOp) (h : perform op s = .next t) (rest : Reaches t u) : Reaches s u

/-! ### Memory -/

/-- An address that can be read: every address in console mode, 0x0000 to 0x43FF in arcade mode (`20_memory.md` R61,
R63). -/
abbrev CanRead (s : State) (addr : Word) : Prop := s.config.mode = .console ∨ addr.toNat < 0x4400

/-- A word whose two bytes can be read. -/
abbrev CanReadWord (s : State) (addr : Word) : Prop := CanRead s addr ∧ CanRead s (addr + 1)

/-- An operand that can be read: a register always, M where HL can be read. -/
abbrev CanReadOperand (s : State) (o : Operand) : Prop := o = .m → CanRead s s.hl

/-- An address whose writes are accepted: every address in console mode, 0x2000 to 0x4000 in arcade mode
(`20_memory.md` R65). -/
abbrev CanWrite (s : State) (addr : Word) : Prop :=
  s.config.mode = .console ∨ (0x2000 ≤ addr.toNat ∧ addr.toNat ≤ 0x4000)

/-- Two logical addresses that name the same cell (`20_memory.md` R60, R62). -/
abbrev SameCell (s : State) (x y : Word) : Prop := resolve s.config.mode x = resolve s.config.mode y

/-- `t` is what a one-byte store of `v` at `addr` makes of the memory of `s`: where the write is accepted, every address of
that cell reads `v` afterwards; where it is not, every address of that cell reads as before; and every address of another
cell reads as before. -/
def ByteStored (addr : Word) (v : Byte) (s t : State) : Prop :=
  (∀ x, ¬ SameCell s x addr → readByte t x = readByte s x) ∧
    (∀ x, SameCell s x addr → CanWrite s addr → readByte t x = .ok v) ∧
      (∀ x, SameCell s x addr → ¬ CanWrite s addr → readByte t x = readByte s x)

/-- `t` is what a two-byte store of `v` at `addr` makes of the memory of `s`: the low byte at `addr`, the high byte at
`addr + 1`, each accepted or dropped on its own. -/
def WordStored (addr v : Word) (s t : State) : Prop :=
  (∀ x, ¬ SameCell s x addr → ¬ SameCell s x (addr + 1) → readByte t x = readByte s x) ∧
    (∀ x, SameCell s x addr → CanWrite s addr → readByte t x = .ok (lowByte v)) ∧
      (∀ x, SameCell s x addr → ¬ CanWrite s addr → readByte t x = readByte s x) ∧
        (∀ x, SameCell s x (addr + 1) → CanWrite s (addr + 1) → readByte t x = .ok (highByte v)) ∧
          (∀ x, SameCell s x (addr + 1) → ¬ CanWrite s (addr + 1) → readByte t x = readByte s x)

/-! ### Frames -/

/-- `t` is `s` but for the store. -/
abbrev SameButStore (s t : State) : Prop := t.setStore s.store = s

/-- `t` is `s` but for the byte registers. -/
abbrev SameButRegs (s t : State) : Prop := t.setRegs s.regs = s

/-- `t` is `s` but for the byte registers and the flags. -/
abbrev SameButRegsFlags (s t : State) : Prop := (t.setRegs s.regs).setFlags s.flags = s

/-- `t` is `s` but for SP and the store. -/
abbrev SameButSpStore (s t : State) : Prop := (t.setSp s.sp).setStore s.store = s

/-- `t` is `s` but for PC, SP and the store. -/
abbrev SameButPcSpStore (s t : State) : Prop := ((t.setPc s.pc).setSp s.sp).setStore s.store = s

/-- The register `r` holds `v` and every other byte register what it held. -/
def WritesReg (r : Reg8) (v : Byte) (s t : State) : Prop := t.reg r = v ∧ ∀ q, q ≠ r → t.reg q = s.reg q

/-- The pair `p` holds `v`, the other pairs and A what they held, and nothing but byte registers and SP changes. -/
def WritesPairSp (p : PairSp) (v : Word) (s t : State) : Prop :=
  t.pairSp p = v ∧ (∀ q, q ≠ p → t.pairSp q = s.pairSp q) ∧ t.reg .a = s.reg .a ∧ (t.setRegs s.regs).setSp s.sp = s

/-! ### Arithmetic, in integers -/

/-- Z, S and P are those of the byte `r` (`10_state.md` R26). -/
def ZspAre (f : Flags) (r : Byte) : Prop :=
  (f.z = true ↔ r.toNat = 0) ∧ (f.s = true ↔ 128 ≤ r.toNat) ∧
    (f.p = true ↔ ((List.range 8).countP fun k => r.getLsbD k) % 2 = 0)

/-- A becomes `A + v + cin` modulo 256; CY is the carry out of bit 7, AC the carry out of bit 3, Z S P are the result's; no
other register and nothing but registers and flags changes. -/
def AddsToA (v : Byte) (cin : Bool) (s t : State) : Prop :=
  (t.reg .a).toNat = ((s.reg .a).toNat + v.toNat + cin.toNat) % 256 ∧
    (∀ q, q ≠ .a → t.reg q = s.reg q) ∧
      ZspAre t.flags (t.reg .a) ∧
        (t.flags.cy = true ↔ 256 ≤ (s.reg .a).toNat + v.toNat + cin.toNat) ∧
          (t.flags.ac = true ↔ 16 ≤ (s.reg .a).toNat % 16 + v.toNat % 16 + cin.toNat) ∧ SameButRegsFlags s t

/-- The flags of `A - v - bin`, on the difference `r`: CY says that a borrow occurred, AC that none came out of the low
nibble (`41_arithmetic.md` R162). -/
def SubtractFlagsAre (f : Flags) (a v : Byte) (bin : Bool) : Prop :=
  ZspAre f (a - v - BitVec.ofNat 8 bin.toNat) ∧
    (f.cy = true ↔ a.toNat < v.toNat + bin.toNat) ∧ (f.ac = true ↔ v.toNat % 16 + bin.toNat ≤ a.toNat % 16)

/-- A becomes `A - v - bin` modulo 256, with the flags of the subtraction. -/
def SubtractsFromA (v : Byte) (bin : Bool) (s t : State) : Prop :=
  WritesReg .a (s.reg .a - v - BitVec.ofNat 8 bin.toNat) s t ∧
    SubtractFlagsAre t.flags (s.reg .a) v bin ∧ SameButRegsFlags s t

/-- `i` is the ALU operation `op` with a register, M or an immediate as operand, and `v` is the value of that operand. -/
def AluSource (op : AluOp) (i : Instr) (s : State) (v : Byte) : Prop :=
  (∃ o, i = .alu op o ∧ rd8 o s = .ok v) ∨ i = .aluImm op v

/-! ### Kinds of instruction -/

/-- The control transfers (`43_control_transfer.md`, and the RET alias). -/
def IsControlTransfer (i : Instr) : Prop :=
  (∃ a, i = .jmp a) ∨ (∃ cc a, i = .jcc cc a) ∨ (∃ a, i = .call a) ∨ (∃ cc a, i = .ccc cc a) ∨ i ∈ Instr.rets ∨
    (∃ cc, i = .rcc cc) ∨ (∃ n, i = .rst n) ∨ i = .pchl

/-- The instructions that write SP (`10_state.md` R25). -/
def WritesSp (i : Instr) : Prop :=
  (∃ v, i = .lxi .sp v) ∨ i = .sphl ∨ i = .inx .sp ∨ i = .dcx .sp ∨ (∃ p, i = .push p) ∨ i = .pushPsw ∨
    (∃ p, i = .pop p) ∨ i = .popPsw ∨ (∃ a, i = .call a) ∨ (∃ cc a, i = .ccc cc a) ∨ i ∈ Instr.rets ∨
      (∃ cc, i = .rcc cc) ∨ ∃ n, i = .rst n

/-- The instructions that write Z, S, P and AC (`10_state.md` R28). -/
def WritesAllButCarry (i : Instr) : Prop :=
  (∃ op o, i = .alu op o) ∨ (∃ op v, i = .aluImm op v) ∨ (∃ o, i = .inr o) ∨ (∃ o, i = .dcr o) ∨ i = .daa ∨ i = .popPsw

/-- The instructions that write CY (`10_state.md` R28). -/
def WritesCarry (i : Instr) : Prop :=
  (∃ op o, i = .alu op o) ∨ (∃ op v, i = .aluImm op v) ∨ (∃ p, i = .dad p) ∨ i = .daa ∨ i = .rlc ∨ i = .rrc ∨ i = .ral ∨
    i = .rar ∨ i = .stc ∨ i = .cmc ∨ i = .popPsw

/-- A conditional call or return whose condition holds (`70_reset_and_hazards.md` R361). -/
def TakenConditional (i : Instr) (s : State) : Prop :=
  ∃ cc, ((∃ a, i = .ccc cc a) ∨ i = .rcc cc) ∧ condHolds cc s.flags = true

/-- A step that is neither halted nor at a console trap, so that it is one fetch and one instruction. -/
def PlainStep (s : State) : Prop := s.halted = false ∧ atExitTrap s = false ∧ atCallTrap s = false

/-! ### Fetch -/

/-- The bytes from PC on decode to the instruction `i`, with none left over. -/
def FetchesAt (s : State) (i : Instr) : Prop :=
  ∃ bytes : List Byte,
    decode bytes = .ok (i, []) ∧
      ∀ (k : Nat) (h : k < bytes.length), readByte s (s.pc + BitVec.ofNat 16 k) = .ok bytes[k]

/-- What the fetch of an instruction does before its meaning runs: PC past it, one instruction counted, its base cost
added (`60_exceptions.md` R290, R292). -/
def afterFetch (i : Instr) (s : State) : State :=
  (countInstruction (s.setPc (s.pc + BitVec.ofNat 16 i.length))).addClock (s.cost (opcode i))

/-- The string at DE is `bs`, ended by a 0x24 that is not part of it (`60_exceptions.md` R312). -/
def StringAtDe (s : State) (bs : List Byte) : Prop :=
  bs.length < 65536 ∧
    (∀ (k : Nat) (h : k < bs.length),
      readByte s (s.pair .de + BitVec.ofNat 16 k) = .ok bs[k] ∧ bs[k] ≠ stringTerminator) ∧
      readByte s (s.pair .de + BitVec.ofNat 16 bs.length) = .ok stringTerminator

/-! ### What nothing reads -/

/-- The state without what no instruction reads: the counters, the cycle table, the output bank and the two streams
(`00_scope.md` R8, `10_state.md` R36, R39 to R41). -/
def State.eraseUnread (s : State) : State :=
  { s with
    clockCount := 0
    instructionCount := 0
    outPort := Vector.replicate 7 0
    consoleOut := []
    diagnostics := []
    config := { s.config with cyc := Vector.replicate 256 0, takenExtra := 0 } }

/-- A result with its next state changed. -/
def mapNext (f : State → State) (r : Result) : Result :=
  match r with
  | .next s => .next (f s)
  | .fault x => .fault x
  | .refused x => .refused x

end Sys2Proof.Machine
end

