-- ==== Sys2Proof/Certificates/Slice0/Obligations.lean ====
section
/-! DEFINITION. The statements about the machine, for the provers. A statement that rests on a decision of the spec, or on a
choice of the model, names it. `∃ t, exec i s = .next t ∧ …` says that the instruction completes and what it leaves. -/

open Sys2Proof Sys2Proof.Machine

/-! ### Encoding -/

/-- Decoding an encoded instruction gives it back, whatever bytes follow, with every operand value. The encoding itself is
general knowledge (D9, entry 6). -/
def Obligations.DecodeOfEncodeIsTheInstruction : Prop :=
  ∀ (i : Instr) (rest : List Byte), decode (encode i ++ rest) = .ok (i, rest)

/-- The decoder reads nothing but encodings: the bytes it consumes are the encoding of what it answers (D9, entry 6). -/
def Obligations.DecodedBytesAreTheEncoding : Prop :=
  ∀ (bytes rest : List Byte) (i : Instr), decode bytes = .ok (i, rest) → bytes = encode i ++ rest

/-- Every opcode byte decodes, the byte alone gives the length, and the lengths are those of R110: 26 opcodes of three
bytes, 18 of two, 212 of one (D9, entry 6). -/
def Obligations.EveryOpcodeByteDecodes : Prop :=
  (∀ op x y : Byte, ∃ i : Instr,
    decode [op, x, y] = .ok (i, [x, y].drop (lengthOf op - 1)) ∧ opcode i = op ∧ i.length = lengthOf op) ∧
    ((List.range 256).countP fun n => lengthOf (BitVec.ofNat 8 n) = 3) = 26 ∧
      ((List.range 256).countP fun n => lengthOf (BitVec.ofNat 8 n) = 2) = 18 ∧
        ((List.range 256).countP fun n => lengthOf (BitVec.ofNat 8 n) = 1) = 212

/-- The bytes of every instruction: an opcode byte with a field is built from the fields of R102 and the codes of R104 to
R108, an opcode without one is the byte of the map R109, and operand words stand low byte first (D9, D10, entries 6
and 11). -/
def Obligations.OpcodeBytesFollowTheirFields : Prop :=
  (∀ dst src, encode (.movRR dst src) = [BitVec.ofNat 8 (0x40 + 8 * dst.code + src.code)]) ∧
    (∀ dst, encode (.movRM dst) = [BitVec.ofNat 8 (0x46 + 8 * dst.code)]) ∧
    (∀ r, encode (.movMR r) = [BitVec.ofNat 8 (0x70 + r.code)]) ∧
    (∀ dst v, encode (.mviR dst v) = [BitVec.ofNat 8 (0x06 + 8 * dst.code), v]) ∧
    (∀ v, encode (.mviM v) = [0x36, v]) ∧
    (∀ p v, encode (.lxi p v) = [BitVec.ofNat 8 (0x01 + 16 * p.code), lowByte v, highByte v]) ∧
    (∀ p, encode (.ldax p) = [BitVec.ofNat 8 (0x0A + 16 * p.code)]) ∧
    (∀ p, encode (.stax p) = [BitVec.ofNat 8 (0x02 + 16 * p.code)]) ∧
    (∀ p, encode (.inx p) = [BitVec.ofNat 8 (0x03 + 16 * p.code)]) ∧
    (∀ p, encode (.dcx p) = [BitVec.ofNat 8 (0x0B + 16 * p.code)]) ∧
    (∀ p, encode (.dad p) = [BitVec.ofNat 8 (0x09 + 16 * p.code)]) ∧
    (∀ o, encode (.inr o) = [BitVec.ofNat 8 (0x04 + 8 * o.code)]) ∧
    (∀ o, encode (.dcr o) = [BitVec.ofNat 8 (0x05 + 8 * o.code)]) ∧
    (∀ op o, encode (.alu op o) = [BitVec.ofNat 8 (0x80 + 8 * op.code + o.code)]) ∧
    (∀ op v, encode (.aluImm op v) = [BitVec.ofNat 8 (0xC6 + 8 * op.code), v]) ∧
    (∀ cc a, encode (.jcc cc a) = [BitVec.ofNat 8 (0xC2 + 8 * cc.code), lowByte a, highByte a]) ∧
    (∀ cc a, encode (.ccc cc a) = [BitVec.ofNat 8 (0xC4 + 8 * cc.code), lowByte a, highByte a]) ∧
    (∀ cc, encode (.rcc cc) = [BitVec.ofNat 8 (0xC0 + 8 * cc.code)]) ∧
    (∀ n : Fin 8, encode (.rst n) = [BitVec.ofNat 8 (0xC7 + 8 * n)]) ∧
    (∀ p, encode (.push p) = [BitVec.ofNat 8 (0xC5 + 16 * p.code)]) ∧
    (∀ p, encode (.pop p) = [BitVec.ofNat 8 (0xC1 + 16 * p.code)]) ∧
    (∀ a, encode (.shld a) = [0x22, lowByte a, highByte a] ∧ encode (.lhld a) = [0x2A, lowByte a, highByte a] ∧
      encode (.sta a) = [0x32, lowByte a, highByte a] ∧ encode (.lda a) = [0x3A, lowByte a, highByte a] ∧
      encode (.jmp a) = [0xC3, lowByte a, highByte a] ∧ encode (.call a) = [0xCD, lowByte a, highByte a]) ∧
    (∀ p, encode (.out p) = [0xD3, p] ∧ encode (.inp p) = [0xDB, p]) ∧
    (encode .rlc = [0x07] ∧ encode .rrc = [0x0F] ∧ encode .ral = [0x17] ∧ encode .rar = [0x1F]) ∧
    (encode .daa = [0x27] ∧ encode .cma = [0x2F] ∧ encode .stc = [0x37] ∧ encode .cmc = [0x3F]) ∧
    (encode .hlt = [0x76] ∧ encode .xthl = [0xE3] ∧ encode .pchl = [0xE9] ∧ encode .xchg = [0xEB] ∧
      encode .di = [0xF3] ∧ encode .pushPsw = [0xF5] ∧ encode .popPsw = [0xF1] ∧ encode .sphl = [0xF9] ∧
      encode .ei = [0xFB]) ∧
    Instr.nops.map encode = [[0x00], [0x08], [0x10], [0x18], [0x20], [0x28], [0x30], [0x38]] ∧
    Instr.rets.map encode = [[0xC9], [0xD9]] ∧
    Instr.undefineds.map (fun r => encode r.1) = [[0xCB], [0xDD], [0xED], [0xFD]]

/-- Words written out from the spec's bit patterns, one of each family (D9, entry 6). -/
def Obligations.SampleWordsDecode : Prop :=
  decode [0b01000001] = .ok (.movBC, []) ∧
    decode [0b00100001, 0x34, 0x12] = .ok (.lxiH 0x1234, []) ∧
    decode [0b10001110] = .ok (.adcM, []) ∧
    decode [0b11101110, 0x81] = .ok (.xri 0x81, []) ∧
    decode [0b11011100, 0x50, 0x02] = .ok (.cc 0x0250, []) ∧
    decode [0b11110101] = .ok (.pushPsw, []) ∧
    decode [0b11011011, 0x03] = .ok (.inp 0x03, []) ∧
    decode [0b11101101, 0x34] = .ok (.undefED, [0x34])

/-! ### The step -/

/-- A step runs the decoded instruction: off the traps and not halted, where the bytes at PC decode to `i`, the step is the
meaning of `i` after its fetch (PC past its bytes, one instruction counted, its base cost added). Rests on D2 (entry 9) for
the wrap of PC, D21 (entry 21) for the count and entry 25 (DEDUCED) for the order. Which instruction the bytes are is
general knowledge (D9, entry 6). -/
def Obligations.StepRunsTheDecodedInstruction : Prop :=
  ∀ (s : State) (i : Instr), PlainStep s → FetchesAt s i → step s = exec i (afterFetch i s)

/-- The call trap: in console mode with PC at 5 the service is performed and the instruction at 5 then runs in the same
step. Selector 2 emits E, selector 9 the string at DE without its 0x24, another selector nothing (D23, entry 19). Rests also
on D1 (entry 30) for the address DE, D2 and D3 (entry 9) for the wraps. Which instruction the bytes are is general knowledge
(D9, entry 6). -/
def Obligations.CallTrapServesThenRuns : Prop :=
  ∀ (s : State) (i : Instr), s.halted = false → s.config.mode = .console → s.pc = 5 → FetchesAt s i →
    (s.reg .c = 2 → step s = exec i (afterFetch i (s.emit [s.reg .e]))) ∧
      (∀ bs, s.reg .c = 9 → StringAtDe s bs → step s = exec i (afterFetch i (s.emit bs))) ∧
        (s.reg .c ≠ 2 → s.reg .c ≠ 9 → step s = exec i (afterFetch i s))

/-- A print call whose string has no end is refused, and only such a one: in console mode the scan reads every cell (D24,
entry 20). -/
def Obligations.UnterminatedStringIsRefused : Prop :=
  ∀ s : State, s.halted = false → s.config.mode = .console → s.pc = 5 → s.reg .c = 9 →
    (step s = .refused .unterminatedString ↔ ∀ a : Word, readByte s a ≠ .ok 0x24)

/-- Halted: in console mode a step with PC at 0 sets it and does nothing else (that InstructionCount stays is decision D21,
entry 21); on a halted machine a step changes nothing, and no call of the host clears it (D12, entry 12). -/
def Obligations.HaltedIsEnteredAndNeverLeft : Prop :=
  ∀ s : State,
    (s.halted = false → s.config.mode = .console → s.pc = 0 → step s = .next { s with halted := true }) ∧
      (s.halted = true →
        step s = .next s ∧ ∀ (op : HostOp) (t : State), perform op s = .next t → t.halted = true)

/-- The fetch of an instruction stops, with the fault the spec names, exactly where one of its bytes cannot be read: the
opcode byte, or the first operand byte in order that has no mapping. Where every byte can be read the step is the
instruction's. The read of M by an ALU instruction, INR or DCR stops exactly where HL cannot be read (D5, entry 7). Rests also
on D2 (entry 9) for the wrap of PC, D1 (entry 30) for the address HL, D6 (entry 28) for the use of M, and D9 (entry 6) for the
lengths. -/
def Obligations.UnmappedReadsStop : Prop :=
  ∀ s : State,
    (s.halted = false → s.config.mode = .arcade →
      (¬ CanRead s s.pc → step s = .fault (.unmappedRead s.pc)) ∧
        ∀ op : Byte, readByte s s.pc = .ok op →
          (2 ≤ lengthOf op → ¬ CanRead s (s.pc + 1) → step s = .fault (.unmappedRead (s.pc + 1))) ∧
            (lengthOf op = 3 → CanRead s (s.pc + 1) → ¬ CanRead s (s.pc + 2) →
              step s = .fault (.unmappedRead (s.pc + 2))) ∧
              ((∀ k < lengthOf op, CanRead s (s.pc + BitVec.ofNat 16 k)) →
                ∃ i : Instr, opcode i = op ∧ FetchesAt s i ∧ step s = exec i (afterFetch i s))) ∧
      ∀ i : Instr, ((∃ op, i = .alu op .m) ∨ i = .inr .m ∨ i = .dcr .m) →
        (CanRead s s.hl → ∃ t, exec i s = .next t) ∧ (¬ CanRead s s.hl → exec i s = .fault (.unmappedRead s.hl))

/-- InstructionCount grows by one in a step that fetches, and stays in a halted step and in the exit step (D21,
entry 21). -/
def Obligations.InstructionCountCountsFetches : Prop :=
  ∀ s t : State, StepsTo s t →
    t.instructionCount =
      if s.halted = true ∨ (s.config.mode = .console ∧ s.pc = 0) then s.instructionCount else s.instructionCount + 1

/-- The cost of a step is the table entry of its opcode, and TAKEN_EXTRA more exactly for a conditional call or return that
is taken. Rests on D2 (entry 9) for the wrap of PC in the fetch; table and extra are arguments (entries 1 and 3). Which byte
an instruction has is general knowledge (D9, entry 6). -/
def Obligations.ClockCountFollowsTheTable : Prop :=
  ∀ (s t : State) (i : Instr), PlainStep s → FetchesAt s i → StepsTo s t →
    (TakenConditional i s → t.clockCount =
        s.clockCount + BitVec.ofNat 64 (s.cost (opcode i)) + BitVec.ofNat 64 s.config.takenExtra) ∧
      (¬ TakenConditional i s → t.clockCount = s.clockCount + BitVec.ofNat 64 (s.cost (opcode i)))

/-- A step of an instruction that is no control transfer leaves PC at the byte after it (D2, entry 9, for the wrap). The
lengths are general knowledge (D9, entry 6). -/
def Obligations.PcAdvancesByTheLength : Prop :=
  ∀ (s t : State) (i : Instr), PlainStep s → FetchesAt s i → StepsTo s t → ¬ IsControlTransfer i →
    t.pc = s.pc + BitVec.ofNat 16 i.length

/-! ### Data transfer -/

/-- MOV r1,r2 copies a register; MVI r and LXI load their immediate, which the step has fetched. The encodings, and that LXI
takes its low byte first, are general knowledge (D9, G4, entry 6). The order of a pair is D1 (entry 30). -/
def Obligations.RegistersAreMovedAndLoaded : Prop :=
  ∀ s : State,
    (∀ dst src : Reg8, encode (.movRR dst src) = [BitVec.ofNat 8 (0x40 + 8 * dst.code + src.code)] ∧
      ∃ t, exec (.movRR dst src) s = .next t ∧ WritesReg dst (s.reg src) s t ∧ SameButRegs s t) ∧
      (∀ dst v, encode (.mviR dst v) = [BitVec.ofNat 8 (0x06 + 8 * dst.code), v] ∧
        ∃ t, exec (.mviR dst v) s = .next t ∧ WritesReg dst v s t ∧ SameButRegs s t) ∧
        ∀ p v, encode (.lxi p v) = [BitVec.ofNat 8 (0x01 + 16 * p.code), lowByte v, highByte v] ∧
          ∃ t, exec (.lxi p v) s = .next t ∧ WritesPairSp p v s t

/-- MOV r,M (from the old HL), LDAX and LDA load the byte addressed; they stop with the fault the spec names where it cannot
be read (D5, entry 7). The encodings, and the operand order of LDA, are general knowledge (D9, G4, entry 6). The order of a
pair is D1 (entry 30). -/
def Obligations.ByteLoadsReadMemory : Prop :=
  ∀ (i : Instr) (dst : Reg8) (addr : Word) (s : State),
    ((i = .movRM dst ∧ addr = s.hl ∧ encode i = [BitVec.ofNat 8 (0x46 + 8 * dst.code)]) ∨
      (dst = .a ∧ ∃ p, i = .ldax p ∧ addr = s.bcDe p ∧ encode i = [BitVec.ofNat 8 (0x0A + 16 * p.code)]) ∨
        (dst = .a ∧ i = .lda addr ∧ encode i = [0x3A, lowByte addr, highByte addr])) →
    (CanRead s addr →
      ∃ t v, exec i s = .next t ∧ readByte s addr = .ok v ∧ WritesReg dst v s t ∧ SameButRegs s t) ∧
      (¬ CanRead s addr → exec i s = .fault (.unmappedRead addr))

/-- MOV M,r, MVI M, STAX and STA store a byte, performed or dropped, and never fault. Which writes arcade mode accepts is
decision D4 (entry 8); the encodings, and the operand order of STA, are general knowledge (D9, G4, entry 6). The order of a
pair is D1 (entry 30). -/
def Obligations.ByteStoresWriteMemory : Prop :=
  ∀ s : State, s.Inv →
    (∀ src, encode (.movMR src) = [BitVec.ofNat 8 (0x70 + src.code)] ∧
      ∃ t, exec (.movMR src) s = .next t ∧ ByteStored s.hl (s.reg src) s t ∧ SameButStore s t) ∧
      (∀ v, encode (.mviM v) = [0x36, v] ∧
        ∃ t, exec (.mviM v) s = .next t ∧ ByteStored s.hl v s t ∧ SameButStore s t) ∧
        (∀ p, encode (.stax p) = [BitVec.ofNat 8 (0x02 + 16 * p.code)] ∧
          ∃ t, exec (.stax p) s = .next t ∧ ByteStored (s.bcDe p) (s.reg .a) s t ∧ SameButStore s t) ∧
          ∀ a, encode (.sta a) = [0x32, lowByte a, highByte a] ∧
            ∃ t, exec (.sta a) s = .next t ∧ ByteStored a (s.reg .a) s t ∧ SameButStore s t

/-- LHLD loads L from the address and H from the next one modulo 65536, or stops with the fault of the byte that cannot be
read; SHLD stores them there, each byte performed or dropped on its own (D3, entry 9, for the wrap; D5, entry 7). Which writes
arcade mode accepts is D4 (entry 8). -/
def Obligations.WordTransfersMoveHl : Prop :=
  ∀ (a : Word) (s : State), s.Inv →
    (CanReadWord s a → ∃ t lo hi, exec (.lhld a) s = .next t ∧ readByte s a = .ok lo ∧ readByte s (a + 1) = .ok hi ∧
      t.reg .l = lo ∧ t.reg .h = hi ∧ (∀ q, q ≠ .l → q ≠ .h → t.reg q = s.reg q) ∧ SameButRegs s t) ∧
      (¬ CanRead s a → exec (.lhld a) s = .fault (.unmappedRead a)) ∧
        (CanRead s a → ¬ CanRead s (a + 1) → exec (.lhld a) s = .fault (.unmappedRead (a + 1))) ∧
          ∃ t, exec (.shld a) s = .next t ∧ WordStored a (wordOf (s.reg .h) (s.reg .l)) s t ∧ SameButStore s t

/-- XCHG: H and D exchange, L and E exchange, nothing else changes. The encoding is general knowledge (D9, entry 6). -/
def Obligations.XchgSwapsDeAndHl : Prop :=
  ∀ s : State, encode .xchg = [0xEB] ∧
    ∃ t, exec .xchg s = .next t ∧ t.reg .h = s.reg .d ∧ t.reg .l = s.reg .e ∧ t.reg .d = s.reg .h ∧
      t.reg .e = s.reg .l ∧ t.reg .a = s.reg .a ∧ t.reg .b = s.reg .b ∧ t.reg .c = s.reg .c ∧ SameButRegs s t

/-- XTHL: HL takes the word at SP, HL is stored there (performed or dropped), SP stays; where a byte of the stack word cannot
be read it stops with the fault the spec names (D5, entry 7). That it reads before it writes is general knowledge (G15, entry
6). Rests also on D3 (entry 9) for the wrap and D4 (entry 8) for which writes arcade mode accepts. -/
def Obligations.XthlExchangesWithTheStack : Prop :=
  ∀ s : State, s.Inv →
    (CanReadWord s s.sp → ∃ t lo hi, exec .xthl s = .next t ∧ readByte s s.sp = .ok lo ∧
      readByte s (s.sp + 1) = .ok hi ∧ t.reg .l = lo ∧ t.reg .h = hi ∧
        (∀ q, q ≠ .l → q ≠ .h → t.reg q = s.reg q) ∧ WordStored s.sp (wordOf (s.reg .h) (s.reg .l)) s t ∧
          (t.setRegs s.regs).setStore s.store = s) ∧
      (¬ CanRead s s.sp → exec .xthl s = .fault (.unmappedRead s.sp)) ∧
        (CanRead s s.sp → ¬ CanRead s (s.sp + 1) → exec .xthl s = .fault (.unmappedRead (s.sp + 1)))

/-! ### Arithmetic -/

/-- The carry detector: position 8 says that the sum reaches 256, position 4 that the sum of the low nibbles reaches 16. The
additive update: Z S P always, then by its mode CY and AC cleared, both computed, or one of them computed and the other left
as it was (D15, entry 15, for mode 2). -/
def Obligations.FlagPrimitives : Prop :=
  ∀ (a b : Byte) (cin : Bool) (f : Flags) (mode : FlagMode),
    (carryAt a b cin 8 = true ↔ 256 ≤ a.toNat + b.toNat + cin.toNat) ∧
      (carryAt a b cin 4 = true ↔ 16 ≤ a.toNat % 16 + b.toNat % 16 + cin.toNat) ∧
        (setFlagsAdd a b cin mode f).1.toNat = (a.toNat + b.toNat + cin.toNat) % 256 ∧
          ZspAre (setFlagsAdd a b cin mode f).2 (setFlagsAdd a b cin mode f).1 ∧
            (setFlagsAdd a b cin mode f).2.cy =
              (match mode with
                | .clearBoth => false
                | .both => carryAt a b cin 8
                | .carryOnly => carryAt a b cin 8
                | .auxOnly => f.cy) ∧
              (setFlagsAdd a b cin mode f).2.ac =
                match mode with
                | .clearBoth => false
                | .both => carryAt a b cin 4
                | .carryOnly => f.ac
                | .auxOnly => carryAt a b cin 4

/-- ADD, ADI add, ADC, ACI add with the carry, from a register, M or an immediate, with exact flags (D14, entry 15, for the
mode). The address of M rests on D1 (entry 30). -/
def Obligations.AddInstructionsAdd : Prop :=
  ∀ (i : Instr) (s : State) (v : Byte),
    (AluSource .add i s v → ∃ t, exec i s = .next t ∧ AddsToA v false s t) ∧
      (AluSource .adc i s v → ∃ t, exec i s = .next t ∧ AddsToA v s.flags.cy s t)

/-- SUB, SUI subtract, SBB, SBI subtract with the borrow, with exact flags (D14, entry 15, for the mode; D17). The address of
M rests on D1 (entry 30). -/
def Obligations.SubtractInstructionsSubtract : Prop :=
  ∀ (i : Instr) (s : State) (v : Byte),
    (AluSource .sub i s v → ∃ t, exec i s = .next t ∧ SubtractsFromA v false s t) ∧
      (AluSource .sbb i s v → ∃ t, exec i s = .next t ∧ SubtractsFromA v s.flags.cy s t)

/-- CMP, CPI: the flags of the subtraction, and nothing else changes (D14, entry 15, for the mode). The address of M rests on
D1 (entry 30). -/
def Obligations.CompareSetsFlagsOnly : Prop :=
  ∀ (i : Instr) (s : State) (v : Byte), AluSource .cmp i s v →
    ∃ t, exec i s = .next t ∧ SubtractFlagsAre t.flags (s.reg .a) v false ∧ t.setFlags s.flags = s

/-- INR r and INR M: one more, Z S P of the result, AC set exactly when the old low nibble was 0xF, CY as it was. The encoding
of INR r is general knowledge (D9, entry 6). INR M rests on D1 (entry 30) for its address and D4 (entry 8) for which writes
arcade mode accepts. -/
def Obligations.InrIncrementsAndKeepsCarry : Prop :=
  ∀ (s : State) (v : Byte), s.Inv →
    (∀ r, s.reg r = v →
      encode (.inr (.reg r)) = [BitVec.ofNat 8 (0x04 + 8 * r.code)] ∧
        ∃ t, exec (.inr (.reg r)) s = .next t ∧ WritesReg r (v + 1) s t ∧ ZspAre t.flags (v + 1) ∧
          (t.flags.ac = true ↔ v.toNat % 16 = 15) ∧ t.flags.cy = s.flags.cy ∧ SameButRegsFlags s t) ∧
      (readByte s s.hl = .ok v →
        ∃ t, exec (.inr .m) s = .next t ∧ ByteStored s.hl (v + 1) s t ∧ ZspAre t.flags (v + 1) ∧
          (t.flags.ac = true ↔ v.toNat % 16 = 15) ∧ t.flags.cy = s.flags.cy ∧
            (t.setFlags s.flags).setStore s.store = s)

/-- DCR r and DCR M: one less, Z S P of the result, AC clear exactly when the old low nibble was 0, CY as it was. Rests on
D17 (entry 15) for the complement; DCR M on D1 (entry 30) for its address and D4 (entry 8) for which writes arcade mode
accepts. -/
def Obligations.DcrDecrementsAndKeepsCarry : Prop :=
  ∀ (s : State) (v : Byte), s.Inv →
    (∀ r, s.reg r = v → ∃ t, exec (.dcr (.reg r)) s = .next t ∧ WritesReg r (v - 1) s t ∧ ZspAre t.flags (v - 1) ∧
      (t.flags.ac = false ↔ v.toNat % 16 = 0) ∧ t.flags.cy = s.flags.cy ∧ SameButRegsFlags s t) ∧
      (readByte s s.hl = .ok v → ∃ t, exec (.dcr .m) s = .next t ∧ ByteStored s.hl (v - 1) s t ∧
        ZspAre t.flags (v - 1) ∧ (t.flags.ac = false ↔ v.toNat % 16 = 0) ∧ t.flags.cy = s.flags.cy ∧
          (t.setFlags s.flags).setStore s.store = s)

/-- INX and DCX step the pair or SP modulo 65536 and write no flag; DAD adds the pair to HL modulo 65536 and writes CY alone,
the carry out of bit 15 (D18, entry 17). The order of a pair is D1 (entry 30). -/
def Obligations.PairArithmetic : Prop :=
  ∀ (p : PairSp) (s : State),
    (∃ t, exec (.inx p) s = .next t ∧ WritesPairSp p (s.pairSp p + 1) s t) ∧
      (∃ t, exec (.dcx p) s = .next t ∧ WritesPairSp p (s.pairSp p - 1) s t) ∧
        ∃ t, exec (.dad p) s = .next t ∧ t.hl.toNat = (s.hl.toNat + (s.pairSp p).toNat) % 65536 ∧
          (∀ q, q ≠ .h → q ≠ .l → t.reg q = s.reg q) ∧
            (t.flags.cy = true ↔ 65536 ≤ s.hl.toNat + (s.pairSp p).toNat) ∧ t.flags.z = s.flags.z ∧
              t.flags.s = s.flags.s ∧ t.flags.p = s.flags.p ∧ t.flags.ac = s.flags.ac ∧ SameButRegsFlags s t

/-- DAA: the correction, by the second test in its equivalent form, and the flags; CY is never cleared (D16, entry 16). -/
def Obligations.DaaCorrects : Prop :=
  ∀ s : State,
    let a := (s.reg .a).toNat
    let low := a % 16 > 9 ∨ s.flags.ac = true
    let high := s.flags.cy = true ∨ a / 16 > 9 ∨ (a / 16 ≥ 9 ∧ a % 16 > 9)
    ∃ (t : State) (corr : Nat), exec .daa s = .next t ∧
      (low → high → corr = 0x66) ∧ (low → ¬ high → corr = 0x06) ∧ (¬ low → high → corr = 0x60) ∧
        (¬ low → ¬ high → corr = 0) ∧ (t.reg .a).toNat = (a + corr) % 256 ∧ (∀ q, q ≠ .a → t.reg q = s.reg q) ∧
          ZspAre t.flags (t.reg .a) ∧ (t.flags.cy = true ↔ high) ∧ (t.flags.ac = true ↔ 16 ≤ a % 16 + corr % 16) ∧
            SameButRegsFlags s t

/-! ### Logical -/

/-- ANA, ANI, XRA, XRI, ORA, ORI: the bitwise result in A, Z S P of it, CY and AC clear (D13, entry 14). The address of M
rests on D1 (entry 30). -/
def Obligations.LogicalInstructionsClearCarries : Prop :=
  ∀ (i : Instr) (s : State) (v r : Byte),
    ((AluSource .ana i s v ∧ r = s.reg .a &&& v) ∨ (AluSource .xra i s v ∧ r = s.reg .a ^^^ v) ∨
      (AluSource .ora i s v ∧ r = s.reg .a ||| v)) →
    ∃ t, exec i s = .next t ∧ WritesReg .a r s t ∧ ZspAre t.flags r ∧ t.flags.cy = false ∧ t.flags.ac = false ∧
      SameButRegsFlags s t

/-- CMA complements A, STC sets and CMC complements CY. The rotates move every bit of A by one place; CY takes the bit that
leaves, the place that is free takes the same bit (RLC, RRC) or the old CY (RAL, RAR). No other flag changes (D18,
entry 17). -/
def Obligations.RotatesAndCarryInstructions : Prop :=
  ∀ s : State,
    ((∃ t, exec .cma s = .next t ∧ WritesReg .a (~~~ (s.reg .a)) s t ∧ SameButRegs s t) ∧
      exec .stc s = .next { s with flags := { s.flags with cy := true } } ∧
        exec .cmc s = .next { s with flags := { s.flags with cy := !s.flags.cy } }) ∧
      ∃ l r al ar : State,
        (exec .rlc s = .next l ∧ exec .rrc s = .next r ∧ exec .ral s = .next al ∧ exec .rar s = .next ar) ∧
          (∀ k < 7,
            (l.reg .a).getLsbD (k + 1) = (s.reg .a).getLsbD k ∧ (al.reg .a).getLsbD (k + 1) = (s.reg .a).getLsbD k ∧
              (r.reg .a).getLsbD k = (s.reg .a).getLsbD (k + 1) ∧
                (ar.reg .a).getLsbD k = (s.reg .a).getLsbD (k + 1)) ∧
            ((l.reg .a).getLsbD 0 = (s.reg .a).getLsbD 7 ∧ (r.reg .a).getLsbD 7 = (s.reg .a).getLsbD 0 ∧
              (al.reg .a).getLsbD 0 = s.flags.cy ∧ (ar.reg .a).getLsbD 7 = s.flags.cy) ∧
              (l.flags = { s.flags with cy := (s.reg .a).getLsbD 7 } ∧ al.flags = l.flags ∧
                r.flags = { s.flags with cy := (s.reg .a).getLsbD 0 } ∧ ar.flags = r.flags) ∧
                ∀ t, t = l ∨ t = r ∨ t = al ∨ t = ar → (∀ q, q ≠ .a → t.reg q = s.reg q) ∧ SameButRegsFlags s t

/-! ### Control transfer -/

/-- The eight conditions test Z, CY, P and S, each for clear and for set (the codes are general knowledge, G8, entry 6). -/
def Obligations.ConditionsTestTheirFlag : Prop :=
  ∀ f : Flags,
    (condHolds .nz f = true ↔ f.z = false) ∧ (condHolds .z f = true ↔ f.z = true) ∧
      (condHolds .nc f = true ↔ f.cy = false) ∧ (condHolds .c f = true ↔ f.cy = true) ∧
        (condHolds .po f = true ↔ f.p = false) ∧ (condHolds .pe f = true ↔ f.p = true) ∧
          (condHolds .p f = true ↔ f.s = false) ∧ (condHolds .m f = true ↔ f.s = true)

/-- JMP and PCHL set PC, Jcc sets it where its condition holds; nothing else changes. The encodings, the operand order and the
condition codes are general knowledge (D9, G4, G8, entry 6). PCHL rests on D1 (entry 30) for the order of HL. -/
def Obligations.JumpsSetPcOnly : Prop :=
  ∀ s : State,
    (∀ a, encode (.jmp a) = [0xC3, lowByte a, highByte a] ∧ exec (.jmp a) s = .next { s with pc := a }) ∧
      (encode .pchl = [0xE9] ∧ exec .pchl s = .next { s with pc := wordOf (s.reg .h) (s.reg .l) }) ∧
        ∀ cc a, encode (.jcc cc a) = [BitVec.ofNat 8 (0xC2 + 8 * cc.code), lowByte a, highByte a] ∧
          (condHolds cc s.flags = true → exec (.jcc cc a) s = .next { s with pc := a }) ∧
            (condHolds cc s.flags = false → exec (.jcc cc a) s = .next s)

/-- CALL, a taken Ccc and RST n push PC (the address of the next instruction) and go to their target; a taken Ccc costs
TAKEN_EXTRA more; a Ccc not taken changes nothing. The return address, the encodings, the operand order and the condition
codes are general knowledge (D9, G4, G8, G19, entry 6). The store rests on D3 (entry 9) for the wrap and D4 (entry 8) for
which writes arcade mode accepts. -/
def Obligations.CallsPushTheReturnAddress : Prop :=
  ∀ s : State, s.Inv →
    (∀ a, encode (.call a) = [0xCD, lowByte a, highByte a] ∧
      ∃ t, exec (.call a) s = .next t ∧ t.pc = a ∧ t.sp = s.sp - 2 ∧ WordStored (s.sp - 2) s.pc s t ∧
        SameButPcSpStore s t) ∧
      (∀ n : Fin 8, encode (.rst n) = [BitVec.ofNat 8 (0xC7 + 8 * n)] ∧
        ∃ t, exec (.rst n) s = .next t ∧ t.pc.toNat = 8 * n ∧ t.sp = s.sp - 2 ∧ WordStored (s.sp - 2) s.pc s t ∧
          SameButPcSpStore s t) ∧
        ∀ cc a, encode (.ccc cc a) = [BitVec.ofNat 8 (0xC4 + 8 * cc.code), lowByte a, highByte a] ∧
          (condHolds cc s.flags = true → ∃ t, exec (.ccc cc a) s = .next t ∧ t.pc = a ∧ t.sp = s.sp - 2 ∧
            WordStored (s.sp - 2) s.pc s t ∧
              t.clockCount = s.clockCount + BitVec.ofNat 64 s.config.takenExtra ∧
                SameButPcSpStore s (t.setClockCount s.clockCount)) ∧
            (condHolds cc s.flags = false → exec (.ccc cc a) s = .next s)

/-- RET and a taken Rcc pop PC; a taken Rcc costs TAKEN_EXTRA more; an Rcc not taken reads no memory and changes nothing; a
stack that cannot be read is the fault (D5, entry 7). The wrap of the word at SP is D3 (entry 9). The encodings and the
condition codes are general knowledge (D9, G8, entry 6). -/
def Obligations.ReturnsPopPc : Prop :=
  ∀ s : State,
    (encode .ret = [0xC9] ∧ ∀ cc, encode (.rcc cc) = [BitVec.ofNat 8 (0xC0 + 8 * cc.code)]) ∧
      (∀ lo hi, readByte s s.sp = .ok lo → readByte s (s.sp + 1) = .ok hi →
        exec .ret s = .next { s with pc := wordOf hi lo, sp := s.sp + 2 } ∧
          ∀ cc, condHolds cc s.flags = true → exec (.rcc cc) s =
            .next { s with
              pc := wordOf hi lo, sp := s.sp + 2,
              clockCount := s.clockCount + BitVec.ofNat 64 s.config.takenExtra }) ∧
        (∀ cc, condHolds cc s.flags = false → exec (.rcc cc) s = .next s) ∧
          ∀ i, (i = .ret ∨ ∃ cc, i = .rcc cc ∧ condHolds cc s.flags = true) →
            (¬ CanRead s s.sp → exec i s = .fault (.unmappedRead s.sp)) ∧
              (CanRead s s.sp → ¬ CanRead s (s.sp + 1) → exec i s = .fault (.unmappedRead (s.sp + 1)))

/-! ### Stack -/

/-- PUSH rp and PUSH PSW: SP less 2, the low byte (the low register, the flag byte) at SP, the high byte (the high register,
A) above it. The encodings are general knowledge (D9, entry 6); the order of a pair is D1 (entry 30); which writes arcade mode
accepts is D4 (entry 8) and the wrap of the second byte D3 (entry 9). -/
def Obligations.PushStoresTheWord : Prop :=
  ∀ s : State, s.Inv →
    (∀ p, encode (.push p) = [BitVec.ofNat 8 (0xC5 + 16 * p.code)] ∧
      ∃ t, exec (.push p) s = .next t ∧ t.sp = s.sp - 2 ∧ WordStored (s.sp - 2) (s.pair p) s t ∧ SameButSpStore s t) ∧
      encode .pushPsw = [0xF5] ∧
        ∃ t, exec .pushPsw s = .next t ∧ t.sp = s.sp - 2 ∧
          WordStored (s.sp - 2) (wordOf (s.reg .a) (packFlags s.flags)) s t ∧ SameButSpStore s t

/-- POP rp and POP PSW: the word at SP into the pair, or into A and the flags; SP plus 2; the fault where the stack cannot be
read. Rests on D5 (entry 7) for the fault, D3 (entry 9) for the wrap, D1 (entry 30) for the order of a pair, and D9 (entry 6)
for the encodings. -/
def Obligations.PopLoadsTheWord : Prop :=
  ∀ s : State,
    ((∀ p, encode (.pop p) = [BitVec.ofNat 8 (0xC1 + 16 * p.code)]) ∧ encode .popPsw = [0xF1]) ∧
      (∀ lo hi, readByte s s.sp = .ok lo → readByte s (s.sp + 1) = .ok hi →
        (∀ p, ∃ t, exec (.pop p) s = .next t ∧ t.pair p = wordOf hi lo ∧ (∀ q, q ≠ p → t.pair q = s.pair q) ∧
          t.reg .a = s.reg .a ∧ t.sp = s.sp + 2 ∧ (t.setRegs s.regs).setSp s.sp = s) ∧
          ∃ t, exec .popPsw s = .next t ∧ WritesReg .a hi s t ∧ t.flags.s = lo.getLsbD 7 ∧ t.flags.z = lo.getLsbD 6 ∧
            t.flags.ac = lo.getLsbD 4 ∧ t.flags.p = lo.getLsbD 2 ∧ t.flags.cy = lo.getLsbD 0 ∧ t.sp = s.sp + 2 ∧
              ((t.setRegs s.regs).setFlags s.flags).setSp s.sp = s) ∧
        ∀ i, ((∃ p, i = .pop p) ∨ i = .popPsw) →
          (¬ CanRead s s.sp → exec i s = .fault (.unmappedRead s.sp)) ∧
            (CanRead s s.sp → ¬ CanRead s (s.sp + 1) → exec i s = .fault (.unmappedRead (s.sp + 1)))

/-- The flag byte: each flag in its bit, bits 5, 3, 1 packed as 0, 0, 1 and ignored when unpacked. PUSH PSW pushes it under A,
POP PSW takes A and the flags from the word it pops. -/
def Obligations.FlagByteLayout : Prop :=
  (∀ f : Flags,
    (packFlags f).getLsbD 7 = f.s ∧ (packFlags f).getLsbD 6 = f.z ∧ (packFlags f).getLsbD 5 = false ∧
      (packFlags f).getLsbD 4 = f.ac ∧ (packFlags f).getLsbD 3 = false ∧ (packFlags f).getLsbD 2 = f.p ∧
        (packFlags f).getLsbD 1 = true ∧ (packFlags f).getLsbD 0 = f.cy ∧ unpackFlags (packFlags f) = f) ∧
    (∀ b : Byte, packFlags (unpackFlags b) = (b &&& 0xD5) ||| 0x02) ∧
      ∀ s : State,
        exec .pushPsw s = .next (push16 (wordOf (s.reg .a) (packFlags s.flags)) s) ∧
          ∀ w u, pop16 s = .ok (w, u) →
            exec .popPsw s = .next ((u.setReg .a (highByte w)).setFlags (unpackFlags (lowByte w)))

/-- A pop right after a push gives the word back and restores SP where both bytes are accepted; SP is restored whenever the
pop does not fault. Rests on D3 (entry 9) for the wrap and D4 (entry 8) for which writes arcade mode accepts. -/
def Obligations.PopAfterPushRestores : Prop :=
  ∀ (v : Word) (s : State), s.Inv →
    (CanWrite s (s.sp - 2) → CanWrite s (s.sp - 1) →
      ∃ t, pop16 (push16 v s) = .ok (v, t) ∧ t.sp = s.sp) ∧
      ∀ r, pop16 (push16 v s) = .ok r → r.2.sp = s.sp

/-- PUSH PSW then, from any registers and flags, POP PSW restores A and the five flags, where both bytes are accepted. Rests
on D3 (entry 9) for the wrap and D4 (entry 8) for which writes arcade mode accepts. -/
def Obligations.PswRoundTrip : Prop :=
  ∀ (s : State) (g : Regs) (f : Flags), s.Inv → CanWrite s (s.sp - 2) → CanWrite s (s.sp - 1) →
    ∃ t u, exec .pushPsw s = .next t ∧ exec .popPsw ((t.setRegs g).setFlags f) = .next u ∧ u.reg .a = s.reg .a ∧
      u.flags = s.flags ∧ u.sp = s.sp

/-- SPHL loads SP from HL, DI clears IE, nothing else changes. The encodings are general knowledge (D9, entry 6) and the order
of HL is decision D1 (entry 30). -/
def Obligations.SphlAndDi : Prop :=
  ∀ s : State,
    (encode .sphl = [0xF9] ∧ exec .sphl s = .next { s with sp := wordOf (s.reg .h) (s.reg .l) }) ∧
      encode .di = [0xF3] ∧ exec .di s = .next { s with ie := false }

/-! ### Machine control and ports -/

/-- NOP and its aliases do nothing, EI sets IE at once (D19, entry 13), HLT sets Halted (D11, entry 12), 0xD9 returns as RET
does; nothing else changes. Which bytes the aliases are is general knowledge (G11, entry 6). The wrap of the word at SP is D3
(entry 9). -/
def Obligations.ControlInstructionsAndAliases : Prop :=
  ∀ s : State,
    (∀ i ∈ Instr.nops, exec i s = .next s) ∧ exec .ei s = .next { s with ie := true } ∧
      exec .hlt s = .next { s with halted := true } ∧
        (∀ lo hi, readByte s s.sp = .ok lo → readByte s (s.sp + 1) = .ok hi →
          exec .retD9 s = .next { s with pc := wordOf hi lo, sp := s.sp + 2 }) ∧
          exec .retD9 s = exec .ret s

/-- An opcode with no defined case appends its record to the diagnostic stream and changes nothing else; it is one byte long
(D10, entry 11). -/
def Obligations.UndefinedOpcodesReport : Prop :=
  ∀ (s : State) (i : Instr) (op : Byte), (i, op) ∈ Instr.undefineds →
    exec i s = .next { s with diagnostics := s.diagnostics ++ [.unknownOpcode op] } ∧ encode i = [op]

/-- IN: ports 0 to 2 read the bank, port 3 the shifter (so InPort[3] is never read), ports from 4 on stop with the fault the
spec names (D25, entry 18; D27, entry 26). -/
def Obligations.InReadsPorts : Prop :=
  ∀ (p : Byte) (s : State),
    (∀ h : p.toNat < 3, ∃ t, exec (.inp p) s = .next t ∧ WritesReg .a s.inPort[p.toNat] s t ∧ SameButRegs s t) ∧
      (p.toNat = 3 → ∃ t, exec (.inp p) s = .next t ∧ SameButRegs s t ∧ (∀ q, q ≠ .a → t.reg q = s.reg q) ∧
        (t.reg .a).toNat = s.shiftReg.toNat / 2 ^ (8 - s.shiftOfs.toNat) % 256) ∧
        (4 ≤ p.toNat → exec (.inp p) s = .fault (.portRange .input p))

/-- OUT: port 2 sets the offset, port 4 shifts the register, ports 0, 1, 3, 5, 6 write their entry of the bank and no other,
ports from 7 on stop with the fault the spec names (D25, entry 18; D27, entry 26). -/
def Obligations.OutWritesPorts : Prop :=
  ∀ (p : Byte) (s : State),
    (p.toNat = 2 → ∃ t, exec (.out p) s = .next t ∧ t.shiftOfs.toNat = (s.reg .a).toNat % 8 ∧
      t.setShiftOfs s.shiftOfs = s) ∧
      (p.toNat = 4 → ∃ t, exec (.out p) s = .next t ∧
        t.shiftReg.toNat = (s.reg .a).toNat * 256 + s.shiftReg.toNat / 256 ∧ t.setShiftReg s.shiftReg = s) ∧
        (∀ h : p.toNat < 7, p.toNat ≠ 2 → p.toNat ≠ 4 → ∃ t, exec (.out p) s = .next t ∧
          t.outPort[p.toNat] = s.reg .a ∧ (∀ (k : Nat) (hk : k < 7), k ≠ p.toNat → t.outPort[k] = s.outPort[k]) ∧
            { t with outPort := s.outPort } = s) ∧
          (7 ≤ p.toNat → exec (.out p) s = .fault (.portRange .output p))

/-- The shift peripheral as a device: after two OUT 4 and an OUT 2, IN 3 gives the eight bits of the two bytes at the offset
(D27, entry 26). -/
def Obligations.ShifterShiftsTwoBytes : Prop :=
  ∀ (s : State) (x y k : Byte), ∃ s1 s2 s3 s4 : State,
    exec (.out 4) (s.setReg .a x) = .next s1 ∧ exec (.out 4) (s1.setReg .a y) = .next s2 ∧
      exec (.out 2) (s2.setReg .a k) = .next s3 ∧ exec (.inp 3) s3 = .next s4 ∧
        (s4.reg .a).toNat = (y.toNat * 256 + x.toNat) * 2 ^ (k.toNat % 8) / 256 % 256

/-! ### Interrupts -/

/-- A delivered interrupt clears IE, pushes PC, goes to 8 * (id + 1) and counts the cycles of its two opcodes, and changes
nothing else, on a halted machine too (D12, entry 12; D21, entry 21); a second request right after it does nothing. A request
while IE is clear changes nothing and is not held; another id is refused (D20, entry 22). The store rests on D3 (entry 9) and
D4 (entry 8); the two opcode bytes are general knowledge (G21, entry 6). -/
def Obligations.InterruptsAreDeliveredOrLost : Prop :=
  ∀ (id : Nat) (s : State), s.Inv →
    (id < 2 → s.ie = true →
      ∃ t, perform (.interrupt id) s = .next t ∧ t.ie = false ∧ t.pc.toNat = 8 * (id + 1) ∧ t.sp = s.sp - 2 ∧
        WordStored (s.sp - 2) s.pc s t ∧
          t.clockCount = s.clockCount + BitVec.ofNat 64 (s.cost 0xF3) +
            BitVec.ofNat 64 (s.cost (if id = 0 then 0xCF else 0xD7)) ∧
            SameButPcSpStore s ((t.setIe s.ie).setClockCount s.clockCount) ∧
              ∀ again < 2, perform (.interrupt again) t = .next t) ∧
      (id < 2 → s.ie = false → perform (.interrupt id) s = .next s) ∧
        (2 ≤ id → perform (.interrupt id) s = .refused (.interruptId id))

/-- A delivered interrupt is two calls of Execute: DI, then RST 1 or RST 2. The opcode bytes are general knowledge (G21, entry
6); the other ids are D20 (entry 22). -/
def Obligations.InterruptIsTwoExecutes : Prop :=
  ∀ (id : Nat) (s : State), id < 2 → s.ie = true →
    ∃ t, execute 0xF3 s = .next t ∧ perform (.interrupt id) s = execute (if id = 0 then 0xCF else 0xD7) t

/-- The return: a RET on the stack the interrupt left goes back to the interrupted address and restores SP, and IE stays
clear, where both stack bytes are accepted. Rests on D3 (entry 9) for the wrap and D4 (entry 8) for which writes arcade mode
accepts. -/
def Obligations.ReturnFromInterruptGoesBack : Prop :=
  ∀ (id : Nat) (s : State) (g : Regs) (f : Flags), s.Inv → id < 2 → s.ie = true → CanWrite s (s.sp - 2) →
    CanWrite s (s.sp - 1) →
    ∃ t u, perform (.interrupt id) s = .next t ∧ exec .ret ((t.setRegs g).setFlags f) = .next u ∧ u.pc = s.pc ∧
      u.sp = s.sp ∧ u.ie = false

/-! ### The host's calls, reset -/

/-- Load puts each byte in its cell, past write protection, and changes nothing else; outside its range it is refused (D7,
entry 10). -/
def Obligations.LoadFillsTheStore : Prop :=
  ∀ (s : State) (addr : Word) (buffer : List Byte), s.Inv →
    (addr.toNat + buffer.length ≤ 65536 → (s.config.mode = .arcade → addr.toNat + buffer.length ≤ 0x4000) →
      ∃ t, perform (.load addr buffer) s = .next t ∧
        (∀ (k : Nat) (h : k < buffer.length), t.store.read (addr.toNat + k) = buffer[k]) ∧
          (∀ c, c < addr.toNat ∨ addr.toNat + buffer.length ≤ c → t.store.read c = s.store.read c) ∧
            SameButStore s t) ∧
      ((65536 < addr.toNat + buffer.length ∨ (s.config.mode = .arcade ∧ 0x4000 < addr.toNat + buffer.length)) →
        perform (.load addr buffer) s = .refused (.loadOutOfRange addr buffer.length))

/-- After construction, in either mode and with any cycle table: registers, flags, ports, shifter and counters 0, IE and
Halted 0, streams empty, every cell 0, PC at RESET_PC. Every value is decision D26 of the spec (entries 4 and 5). -/
def Obligations.ConstructionValues : Prop :=
  ∀ cfg : Config,
    let s := State.construct cfg
    (∀ r, s.reg r = 0) ∧ s.sp = 0 ∧ s.pc = (if cfg.mode = .arcade then 0x0000 else 0x0100) ∧
      s.flags = ⟨false, false, false, false, false⟩ ∧ s.ie = false ∧ s.halted = false ∧
        (∀ (k : Nat) (h : k < 4), s.inPort[k] = 0) ∧ (∀ (k : Nat) (h : k < 7), s.outPort[k] = 0) ∧ s.shiftReg = 0 ∧
          s.shiftOfs = 0 ∧ s.clockCount = 0 ∧ s.instructionCount = 0 ∧ s.consoleOut = [] ∧ s.diagnostics = [] ∧
            (∀ c, s.store.read c = 0) ∧ s.config = cfg

/-- The state after reset is in canonical form. The reset values are D26 and the form of the store is the model's choice
(entries 2, 4 and 5). -/
def Obligations.ResetIsCanonical : Prop := State.reset.Inv

/-! ### Invariants and whole-machine rules -/

/-- Every step keeps the store in canonical form. The form is the model's choice (entry 5). -/
def Obligations.StepKeepsTheStoreCanonical : Prop := ∀ s t : State, s.Inv → StepsTo s t → t.Inv

/-- Every run of host calls, steps among them, keeps the store in canonical form (entry 5), the configuration (entry 1), and a
set Halted bit (D12, entry 12). -/
def Obligations.RunsKeepTheInvariant : Prop :=
  ∀ s t : State, Reaches s t → s.Inv → t.Inv ∧ t.config = s.config ∧ (s.halted = true → t.halted = true)

/-- The map is fixed: no call of the host, a step or an interrupt included, changes the mode or what an address resolves
to. -/
def Obligations.TheMapIsNeverRebound : Prop :=
  ∀ (op : HostOp) (s t : State), perform op s = .next t →
    t.config.mode = s.config.mode ∧ ∀ a, resolve t.config.mode a = resolve s.config.mode a

/-- Write protection of the machine: in arcade mode no step and no interrupt changes a cell outside 0x2000 to 0x3FFF, where
the accepted addresses 0x2000 to 0x4000 land (D4, entry 8). -/
def Obligations.ArcadeRomIsNeverWritten : Prop :=
  ∀ (s t : State) (op : HostOp), s.config.mode = .arcade → (op = .clock ∨ ∃ id, op = .interrupt id) →
    perform op s = .next t → ∀ c, c < 0x2000 ∨ 0x3FFF < c → t.store.read c = s.store.read c

/-- Mirroring: the window reads the cells 0x2000 lower, and a byte stored through the low address is read back through
both. -/
def Obligations.ArcadeMirrorReadsTheSameCell : Prop :=
  ∀ (s : State) (a : Word) (v : Byte), s.Inv → s.config.mode = .arcade → 0x2000 ≤ a.toNat → a.toNat ≤ 0x23FF →
    readByte s (a + 0x2000) = readByte s a ∧
      ∃ t, exec (.sta a) (s.setReg .a v) = .next t ∧ readByte t a = .ok v ∧ readByte t (a + 0x2000) = .ok v

/-- No step writes the input bank or entries 2 and 4 of the output bank; the two streams only grow, whatever the host calls
(D23, entry 19, and D28, entry 27, for the streams). -/
def Obligations.PortsAndStreamsFollowTheirWriters : Prop :=
  (∀ s t : State, StepsTo s t → t.inPort = s.inPort ∧ t.outPort[2] = s.outPort[2] ∧ t.outPort[4] = s.outPort[4]) ∧
    ∀ (op : HostOp) (s t : State), perform op s = .next t →
      s.consoleOut <+: t.consoleOut ∧ s.diagnostics <+: t.diagnostics

/-- An instruction writes Z, S, P or AC, or CY, only if R28 lists it for them. That the rotates, DAD, INX, DCX, CMA, STC and
CMC leave the other flags is decision D18 (entry 17, PRESUMED). -/
def Obligations.FlagsChangeOnlyWhereListed : Prop :=
  ∀ (i : Instr) (s t : State), exec i s = .next t →
    (¬ WritesAllButCarry i →
      t.flags.z = s.flags.z ∧ t.flags.s = s.flags.s ∧ t.flags.p = s.flags.p ∧ t.flags.ac = s.flags.ac) ∧
      (¬ WritesCarry i → t.flags.cy = s.flags.cy)

/-- An instruction writes SP only if it is LXI SP, SPHL, INX SP, DCX SP, a push or a pop; IE only if it is EI or DI; and
Halted only if it is HLT. Rests on D9 to D12 (entries 6, 11 and 12) for HLT, the RET alias and the opcodes with no defined
case. -/
def Obligations.SpIeAndHaltedChangeOnlyWhereListed : Prop :=
  ∀ (i : Instr) (s t : State), exec i s = .next t →
    (¬ WritesSp i → t.sp = s.sp) ∧ (i ≠ .ei → i ≠ .di → t.ie = s.ie) ∧ (i ≠ .hlt → t.halted = s.halted)

/-- Nothing depends on the counters, the cycle table, TAKEN_EXTRA, the output bank or the two streams: states that agree but
for these step to results that agree but for these. -/
def Obligations.CountersAndOutputsInfluenceNothing : Prop :=
  ∀ s s' : State, s.eraseUnread = s'.eraseUnread →
    mapNext State.eraseUnread (step s) = mapNext State.eraseUnread (step s')

/-! ### The host's writes -/

/-- A write of an input port by the host sets that entry of the bank; the reset of a counter clears that counter; nothing else
changes. -/
def Obligations.HostWritesSetTheirFieldOnly : Prop :=
  ∀ s : State,
    (∀ (i : Fin 4) (v : Byte), ∃ t, perform (.setInPort i v) s = .next t ∧ t.inPort[i] = v ∧
      (∀ k : Fin 4, k ≠ i → t.inPort[k] = s.inPort[k]) ∧ { t with inPort := s.inPort } = s) ∧
      perform .resetClockCount s = .next { s with clockCount := 0 } ∧
        perform .resetInstructionCount s = .next { s with instructionCount := 0 }
end

