-- ==== Sys2Proof/Laws/Bits.lean ====
section
/-! SUPPORT. A word and its two bytes determine each other. -/

namespace Sys2Proof

/-- `hi:lo` is `hi * 256 + lo` (`00_scope.md` R9). -/
theorem wordOf_toNat (hi lo : Byte) : (wordOf hi lo).toNat = hi.toNat * 256 + lo.toNat := by
  unfold wordOf
  rw [BitVec.toNat_append, Nat.shiftLeft_eq, Nat.mul_comm, ← Nat.two_pow_add_eq_or_of_lt lo.isLt]

theorem lowByte_toNat (v : Word) : (lowByte v).toNat = v.toNat % 256 := by
  simp [lowByte, BitVec.extractLsb'_toNat]

theorem highByte_toNat (v : Word) : (highByte v).toNat = v.toNat / 256 := by
  have := v.isLt
  simp only [highByte, BitVec.extractLsb'_toNat, Nat.shiftRight_eq_div_pow]
  omega

@[simp] theorem lowByte_wordOf (hi lo : Byte) : lowByte (wordOf hi lo) = lo := by
  apply BitVec.eq_of_toNat_eq
  have := lo.isLt
  rw [lowByte_toNat, wordOf_toNat]
  omega

@[simp] theorem highByte_wordOf (hi lo : Byte) : highByte (wordOf hi lo) = hi := by
  apply BitVec.eq_of_toNat_eq
  have := lo.isLt
  rw [highByte_toNat, wordOf_toNat]
  omega

@[simp] theorem wordOf_halves (v : Word) : wordOf (highByte v) (lowByte v) = v := by
  apply BitVec.eq_of_toNat_eq
  rw [wordOf_toNat, lowByte_toNat, highByte_toNat]
  omega

end Sys2Proof
end

