-- ==== Sys2Proof/Laws/Memory.lean ====
section
/-! SUPPORT. The laws of the backing store: a read after a write, and the canonical form, which every operation keeps and in
which equal contents are equal lists. -/

namespace Sys2Proof.Machine

/-! ### Reading -/

@[simp] theorem Memory.read_nil (c : Nat) : Memory.read [] c = unlistedByte := rfl

theorem Memory.read_entry (k : Nat) (w : Byte) (m : Memory) (c : Nat) :
    Memory.read ((k, w) :: m) c = if k = c then w else Memory.read m c := rfl

/-- A cell below every entry is not listed. -/
theorem Memory.read_below {low : Nat} {m : Memory} (h : Memory.risesFrom low m = true) {c : Nat} (hc : c < low) :
    Memory.read m c = unlistedByte := by
  induction m generalizing low with
  | nil => rfl
  | cons e rest ih =>
    obtain ⟨k, w⟩ := e
    simp only [Memory.risesFrom, Bool.and_eq_true, decide_eq_true_eq] at h
    rw [Memory.read_entry, if_neg (by omega), ih h.2 (by omega)]

theorem Memory.risesFrom_mono {low low' : Nat} (h : low' ≤ low) {m : Memory} (hm : Memory.risesFrom low m = true) :
    Memory.risesFrom low' m = true := by
  cases m with
  | nil => rfl
  | cons e rest =>
    simp only [Memory.risesFrom, Bool.and_eq_true, decide_eq_true_eq] at hm ⊢
    exact ⟨by omega, hm.2⟩

/-! ### The canonical form, with a lower bound -/

/-- The canonical form of a store whose entries stand from `low` on. -/
def Memory.wfFrom (low : Nat) (m : Memory) : Prop :=
  Memory.risesFrom low m = true ∧ ∀ e ∈ m, e.1 < 65536 ∧ e.2 ≠ unlistedByte

theorem Memory.wf_iff (m : Memory) : m.wf = true ↔ m.wfFrom 0 := by
  simp only [Memory.wf, Memory.wfFrom, Bool.and_eq_true, List.all_eq_true, decide_eq_true_eq, bne_iff_ne]

theorem Memory.wfFrom_entry {low k : Nat} {w : Byte} {m : Memory} :
    Memory.wfFrom low ((k, w) :: m) ↔ (low ≤ k ∧ k < 65536 ∧ w ≠ unlistedByte) ∧ Memory.wfFrom (k + 1) m := by
  simp only [Memory.wfFrom, Memory.risesFrom, Bool.and_eq_true, decide_eq_true_eq, List.forall_mem_cons]
  tauto

theorem Memory.wfFrom_cons {low c : Nat} {v : Byte} {m : Memory} (hl : low ≤ c) (hc : c < 65536)
    (hm : Memory.wfFrom (c + 1) m) : Memory.wfFrom low (Memory.cons c v m) := by
  unfold Memory.cons
  split
  · exact ⟨Memory.risesFrom_mono (by omega) hm.1, hm.2⟩
  · exact Memory.wfFrom_entry.mpr ⟨⟨hl, hc, ‹_›⟩, hm⟩

theorem Memory.wfFrom_write {low c : Nat} {v : Byte} {m : Memory} (hl : low ≤ c) (hc : c < 65536)
    (hm : Memory.wfFrom low m) : Memory.wfFrom low (m.write c v) := by
  induction m generalizing low with
  | nil => exact Memory.wfFrom_cons hl hc ⟨rfl, by simp⟩
  | cons e rest ih =>
    obtain ⟨k, w⟩ := e
    have hk := Memory.wfFrom_entry.mp hm
    unfold Memory.write
    split
    · exact Memory.wfFrom_cons hl hc (Memory.wfFrom_entry.mpr ⟨⟨by omega, hk.1.2⟩, hk.2⟩)
    · split
      · subst_vars
        exact Memory.wfFrom_cons hl hc hk.2
      · exact Memory.wfFrom_entry.mpr ⟨hk.1, ih (by omega) hk.2⟩

/-! ### Every operation keeps the canonical form -/

/-- A write of a cell of the store keeps the canonical form. -/
theorem Memory.wf_write {m : Memory} {c : Nat} (v : Byte) (hc : c < 65536) (hm : m.wf = true) :
    (m.write c v).wf = true :=
  (Memory.wf_iff _).mpr (Memory.wfFrom_write (Nat.zero_le c) hc ((Memory.wf_iff m).mp hm))

/-- A bulk write inside the store keeps the canonical form. -/
theorem Memory.wf_writeRun {m : Memory} {c : Nat} {vs : List Byte} (hc : c + vs.length ≤ 65536) (hm : m.wf = true) :
    (m.writeRun c vs).wf = true := by
  induction vs generalizing m c with
  | nil => exact hm
  | cons v vs ih =>
    simp only [List.length_cons] at hc
    exact ih (by omega) (Memory.wf_write v (by omega) hm)

/-! ### A read after a write -/

theorem Memory.read_cons_of_risesFrom {c : Nat} {v : Byte} {m : Memory} (hm : Memory.risesFrom (c + 1) m = true)
    (c' : Nat) : (Memory.cons c v m).read c' = if c = c' then v else m.read c' := by
  unfold Memory.cons
  by_cases hv : v = unlistedByte
  · rw [if_pos hv]
    by_cases h : c = c'
    · rw [if_pos h, hv, Memory.read_below hm (by omega)]
    · rw [if_neg h]
  · rw [if_neg hv, Memory.read_entry]

theorem Memory.read_write_of_risesFrom {low : Nat} {m : Memory} (hm : Memory.risesFrom low m = true) (c c' : Nat)
    (v : Byte) : (m.write c v).read c' = if c = c' then v else m.read c' := by
  induction m generalizing low with
  | nil => exact Memory.read_cons_of_risesFrom rfl c'
  | cons e rest ih =>
    obtain ⟨k, w⟩ := e
    have hr : Memory.risesFrom (k + 1) rest = true := by
      simp only [Memory.risesFrom, Bool.and_eq_true] at hm
      exact hm.2
    unfold Memory.write
    split
    · refine Memory.read_cons_of_risesFrom ?_ c'
      simp only [Memory.risesFrom, Bool.and_eq_true, decide_eq_true_eq]
      exact ⟨by omega, hr⟩
    · split
      · subst_vars
        rw [Memory.read_cons_of_risesFrom hr, Memory.read_entry]
        split <;> rfl
      · rw [Memory.read_entry, ih hr, Memory.read_entry]
        split <;> split <;> first | rfl | omega

/-- A read after a write: the written cell holds the value, every other cell what it held. -/
theorem Memory.read_write {m : Memory} (hm : m.wf = true) (c c' : Nat) (v : Byte) :
    (m.write c v).read c' = if c = c' then v else m.read c' :=
  Memory.read_write_of_risesFrom ((Memory.wf_iff m).mp hm).1 c c' v

/-- A write leaves every other cell alone, in any list. -/
theorem Memory.read_write_of_ne (m : Memory) {c c' : Nat} (h : c ≠ c') (v : Byte) :
    (m.write c v).read c' = m.read c' := by
  have hcons : ∀ m : Memory, (Memory.cons c v m).read c' = m.read c' := by
    intro m
    unfold Memory.cons
    split
    · rfl
    · rw [Memory.read_entry, if_neg h]
  induction m with
  | nil => exact hcons []
  | cons e rest ih =>
    obtain ⟨k, w⟩ := e
    unfold Memory.write
    split
    · exact hcons _
    · split
      · subst_vars
        rw [hcons, Memory.read_entry, if_neg h]
      · rw [Memory.read_entry, ih, Memory.read_entry]

/-- A bulk write leaves every cell outside its run alone. -/
theorem Memory.read_writeRun_outside (m : Memory) {c c' : Nat} {vs : List Byte} (h : c' < c ∨ c + vs.length ≤ c') :
    (m.writeRun c vs).read c' = m.read c' := by
  induction vs generalizing m c with
  | nil => rfl
  | cons v vs ih =>
    simp only [List.length_cons] at h
    rw [Memory.writeRun, ih _ (by omega), Memory.read_write_of_ne _ (by omega)]

/-- A bulk write puts each byte in its cell. -/
theorem Memory.read_writeRun_inside {m : Memory} (hm : m.wf = true) {c : Nat} {vs : List Byte}
    (hc : c + vs.length ≤ 65536) (k : Nat) (hk : k < vs.length) : (m.writeRun c vs).read (c + k) = vs[k] := by
  induction vs generalizing m c k with
  | nil => simp at hk
  | cons v vs ih =>
    simp only [List.length_cons] at hc hk
    rw [Memory.writeRun]
    cases k with
    | zero =>
      rw [Memory.read_writeRun_outside _ (by omega), Memory.read_write hm]
      simp
    | succ k =>
      have := ih (m := m.write c v) (c := c + 1) (Memory.wf_write v (by omega) hm) (by omega) k (by omega)
      rw [show c + 1 + k = c + (k + 1) by omega] at this
      simpa using this

/-! ### Equal contents are equal stores -/

theorem Memory.wfFrom_ext {low low' : Nat} {m n : Memory} (hm : m.wfFrom low) (hn : n.wfFrom low')
    (h : ∀ c, m.read c = n.read c) : m = n := by
  induction m generalizing low low' n with
  | nil =>
    cases n with
    | nil => rfl
    | cons e rest =>
      obtain ⟨k, w⟩ := e
      have he := (Memory.wfFrom_entry.mp hn).1.2.2
      exact absurd (by simpa [Memory.read_entry] using (h k).symm) he
  | cons e rest ih =>
    obtain ⟨k, w⟩ := e
    have hk := Memory.wfFrom_entry.mp hm
    cases n with
    | nil => exact absurd (by simpa [Memory.read_entry] using h k) hk.1.2.2
    | cons e' rest' =>
      obtain ⟨k', w'⟩ := e'
      have hk' := Memory.wfFrom_entry.mp hn
      have below : ∀ {a b : Nat} {x : Byte} {r : Memory}, Memory.wfFrom (b + 1) r → a < b →
          Memory.read ((b, x) :: r) a = unlistedByte := by
        intro a b x r hr hab
        rw [Memory.read_entry, if_neg (by omega), Memory.read_below hr.1 (by omega)]
      have same_cell : k = k' := by
        rcases Nat.lt_trichotomy k k' with hlt | heq | hgt
        · have := h k
          rw [below hk'.2 hlt, Memory.read_entry, if_pos rfl] at this
          exact absurd this hk.1.2.2
        · exact heq
        · have := h k'
          rw [below hk.2 hgt, Memory.read_entry, if_pos rfl] at this
          exact absurd this.symm hk'.1.2.2
      subst same_cell
      have same_byte : w = w' := by simpa [Memory.read_entry] using h k
      subst same_byte
      congr 1
      refine ih hk.2 hk'.2 fun c => ?_
      by_cases hc : k = c
      · rw [← hc, Memory.read_below hk.2.1 (Nat.lt_succ_self k), Memory.read_below hk'.2.1 (Nat.lt_succ_self k)]
      · simpa [Memory.read_entry, hc] using h c

/-- In canonical form, stores with the same contents are the same list. -/
theorem Memory.ext_of_wf {m n : Memory} (hm : m.wf = true) (hn : n.wf = true) (h : ∀ c, m.read c = n.read c) :
    m = n :=
  Memory.wfFrom_ext ((Memory.wf_iff m).mp hm) ((Memory.wf_iff n).mp hn) h

end Sys2Proof.Machine
end

