-- ==== Sys2Proof/Laws/State.lean ====
section
/-! SUPPORT. One lemma for each field after each update of the state, so that no later proof unfolds a record update. -/

namespace Sys2Proof.Machine

variable (s : State)

@[simp] theorem State.setRegs_regs (g : Regs) : (s.setRegs g).regs = g := rfl
@[simp] theorem State.setRegs_flags (g : Regs) : (s.setRegs g).flags = s.flags := rfl
@[simp] theorem State.setRegs_sp (g : Regs) : (s.setRegs g).sp = s.sp := rfl
@[simp] theorem State.setRegs_pc (g : Regs) : (s.setRegs g).pc = s.pc := rfl
@[simp] theorem State.setRegs_ie (g : Regs) : (s.setRegs g).ie = s.ie := rfl
@[simp] theorem State.setRegs_halted (g : Regs) : (s.setRegs g).halted = s.halted := rfl
@[simp] theorem State.setRegs_inPort (g : Regs) : (s.setRegs g).inPort = s.inPort := rfl
@[simp] theorem State.setRegs_outPort (g : Regs) : (s.setRegs g).outPort = s.outPort := rfl
@[simp] theorem State.setRegs_shiftReg (g : Regs) : (s.setRegs g).shiftReg = s.shiftReg := rfl
@[simp] theorem State.setRegs_shiftOfs (g : Regs) : (s.setRegs g).shiftOfs = s.shiftOfs := rfl
@[simp] theorem State.setRegs_clockCount (g : Regs) : (s.setRegs g).clockCount = s.clockCount := rfl
@[simp] theorem State.setRegs_instructionCount (g : Regs) : (s.setRegs g).instructionCount = s.instructionCount := rfl
@[simp] theorem State.setRegs_consoleOut (g : Regs) : (s.setRegs g).consoleOut = s.consoleOut := rfl
@[simp] theorem State.setRegs_diagnostics (g : Regs) : (s.setRegs g).diagnostics = s.diagnostics := rfl
@[simp] theorem State.setRegs_store (g : Regs) : (s.setRegs g).store = s.store := rfl
@[simp] theorem State.setRegs_config (g : Regs) : (s.setRegs g).config = s.config := rfl

@[simp] theorem State.setFlags_regs (f : Flags) : (s.setFlags f).regs = s.regs := rfl
@[simp] theorem State.setFlags_flags (f : Flags) : (s.setFlags f).flags = f := rfl
@[simp] theorem State.setFlags_sp (f : Flags) : (s.setFlags f).sp = s.sp := rfl
@[simp] theorem State.setFlags_pc (f : Flags) : (s.setFlags f).pc = s.pc := rfl
@[simp] theorem State.setFlags_ie (f : Flags) : (s.setFlags f).ie = s.ie := rfl
@[simp] theorem State.setFlags_halted (f : Flags) : (s.setFlags f).halted = s.halted := rfl
@[simp] theorem State.setFlags_inPort (f : Flags) : (s.setFlags f).inPort = s.inPort := rfl
@[simp] theorem State.setFlags_outPort (f : Flags) : (s.setFlags f).outPort = s.outPort := rfl
@[simp] theorem State.setFlags_shiftReg (f : Flags) : (s.setFlags f).shiftReg = s.shiftReg := rfl
@[simp] theorem State.setFlags_shiftOfs (f : Flags) : (s.setFlags f).shiftOfs = s.shiftOfs := rfl
@[simp] theorem State.setFlags_clockCount (f : Flags) : (s.setFlags f).clockCount = s.clockCount := rfl
@[simp] theorem State.setFlags_instructionCount (f : Flags) : (s.setFlags f).instructionCount = s.instructionCount := rfl
@[simp] theorem State.setFlags_consoleOut (f : Flags) : (s.setFlags f).consoleOut = s.consoleOut := rfl
@[simp] theorem State.setFlags_diagnostics (f : Flags) : (s.setFlags f).diagnostics = s.diagnostics := rfl
@[simp] theorem State.setFlags_store (f : Flags) : (s.setFlags f).store = s.store := rfl
@[simp] theorem State.setFlags_config (f : Flags) : (s.setFlags f).config = s.config := rfl

@[simp] theorem State.setSp_regs (v : Word) : (s.setSp v).regs = s.regs := rfl
@[simp] theorem State.setSp_flags (v : Word) : (s.setSp v).flags = s.flags := rfl
@[simp] theorem State.setSp_sp (v : Word) : (s.setSp v).sp = v := rfl
@[simp] theorem State.setSp_pc (v : Word) : (s.setSp v).pc = s.pc := rfl
@[simp] theorem State.setSp_ie (v : Word) : (s.setSp v).ie = s.ie := rfl
@[simp] theorem State.setSp_halted (v : Word) : (s.setSp v).halted = s.halted := rfl
@[simp] theorem State.setSp_inPort (v : Word) : (s.setSp v).inPort = s.inPort := rfl
@[simp] theorem State.setSp_outPort (v : Word) : (s.setSp v).outPort = s.outPort := rfl
@[simp] theorem State.setSp_shiftReg (v : Word) : (s.setSp v).shiftReg = s.shiftReg := rfl
@[simp] theorem State.setSp_shiftOfs (v : Word) : (s.setSp v).shiftOfs = s.shiftOfs := rfl
@[simp] theorem State.setSp_clockCount (v : Word) : (s.setSp v).clockCount = s.clockCount := rfl
@[simp] theorem State.setSp_instructionCount (v : Word) : (s.setSp v).instructionCount = s.instructionCount := rfl
@[simp] theorem State.setSp_consoleOut (v : Word) : (s.setSp v).consoleOut = s.consoleOut := rfl
@[simp] theorem State.setSp_diagnostics (v : Word) : (s.setSp v).diagnostics = s.diagnostics := rfl
@[simp] theorem State.setSp_store (v : Word) : (s.setSp v).store = s.store := rfl
@[simp] theorem State.setSp_config (v : Word) : (s.setSp v).config = s.config := rfl

@[simp] theorem State.setPc_regs (v : Word) : (s.setPc v).regs = s.regs := rfl
@[simp] theorem State.setPc_flags (v : Word) : (s.setPc v).flags = s.flags := rfl
@[simp] theorem State.setPc_sp (v : Word) : (s.setPc v).sp = s.sp := rfl
@[simp] theorem State.setPc_pc (v : Word) : (s.setPc v).pc = v := rfl
@[simp] theorem State.setPc_ie (v : Word) : (s.setPc v).ie = s.ie := rfl
@[simp] theorem State.setPc_halted (v : Word) : (s.setPc v).halted = s.halted := rfl
@[simp] theorem State.setPc_inPort (v : Word) : (s.setPc v).inPort = s.inPort := rfl
@[simp] theorem State.setPc_outPort (v : Word) : (s.setPc v).outPort = s.outPort := rfl
@[simp] theorem State.setPc_shiftReg (v : Word) : (s.setPc v).shiftReg = s.shiftReg := rfl
@[simp] theorem State.setPc_shiftOfs (v : Word) : (s.setPc v).shiftOfs = s.shiftOfs := rfl
@[simp] theorem State.setPc_clockCount (v : Word) : (s.setPc v).clockCount = s.clockCount := rfl
@[simp] theorem State.setPc_instructionCount (v : Word) : (s.setPc v).instructionCount = s.instructionCount := rfl
@[simp] theorem State.setPc_consoleOut (v : Word) : (s.setPc v).consoleOut = s.consoleOut := rfl
@[simp] theorem State.setPc_diagnostics (v : Word) : (s.setPc v).diagnostics = s.diagnostics := rfl
@[simp] theorem State.setPc_store (v : Word) : (s.setPc v).store = s.store := rfl
@[simp] theorem State.setPc_config (v : Word) : (s.setPc v).config = s.config := rfl

@[simp] theorem State.setIe_regs (b : Bool) : (s.setIe b).regs = s.regs := rfl
@[simp] theorem State.setIe_flags (b : Bool) : (s.setIe b).flags = s.flags := rfl
@[simp] theorem State.setIe_sp (b : Bool) : (s.setIe b).sp = s.sp := rfl
@[simp] theorem State.setIe_pc (b : Bool) : (s.setIe b).pc = s.pc := rfl
@[simp] theorem State.setIe_ie (b : Bool) : (s.setIe b).ie = b := rfl
@[simp] theorem State.setIe_halted (b : Bool) : (s.setIe b).halted = s.halted := rfl
@[simp] theorem State.setIe_inPort (b : Bool) : (s.setIe b).inPort = s.inPort := rfl
@[simp] theorem State.setIe_outPort (b : Bool) : (s.setIe b).outPort = s.outPort := rfl
@[simp] theorem State.setIe_shiftReg (b : Bool) : (s.setIe b).shiftReg = s.shiftReg := rfl
@[simp] theorem State.setIe_shiftOfs (b : Bool) : (s.setIe b).shiftOfs = s.shiftOfs := rfl
@[simp] theorem State.setIe_clockCount (b : Bool) : (s.setIe b).clockCount = s.clockCount := rfl
@[simp] theorem State.setIe_instructionCount (b : Bool) : (s.setIe b).instructionCount = s.instructionCount := rfl
@[simp] theorem State.setIe_consoleOut (b : Bool) : (s.setIe b).consoleOut = s.consoleOut := rfl
@[simp] theorem State.setIe_diagnostics (b : Bool) : (s.setIe b).diagnostics = s.diagnostics := rfl
@[simp] theorem State.setIe_store (b : Bool) : (s.setIe b).store = s.store := rfl
@[simp] theorem State.setIe_config (b : Bool) : (s.setIe b).config = s.config := rfl

@[simp] theorem State.setHalted_regs (b : Bool) : (s.setHalted b).regs = s.regs := rfl
@[simp] theorem State.setHalted_flags (b : Bool) : (s.setHalted b).flags = s.flags := rfl
@[simp] theorem State.setHalted_sp (b : Bool) : (s.setHalted b).sp = s.sp := rfl
@[simp] theorem State.setHalted_pc (b : Bool) : (s.setHalted b).pc = s.pc := rfl
@[simp] theorem State.setHalted_ie (b : Bool) : (s.setHalted b).ie = s.ie := rfl
@[simp] theorem State.setHalted_halted (b : Bool) : (s.setHalted b).halted = b := rfl
@[simp] theorem State.setHalted_inPort (b : Bool) : (s.setHalted b).inPort = s.inPort := rfl
@[simp] theorem State.setHalted_outPort (b : Bool) : (s.setHalted b).outPort = s.outPort := rfl
@[simp] theorem State.setHalted_shiftReg (b : Bool) : (s.setHalted b).shiftReg = s.shiftReg := rfl
@[simp] theorem State.setHalted_shiftOfs (b : Bool) : (s.setHalted b).shiftOfs = s.shiftOfs := rfl
@[simp] theorem State.setHalted_clockCount (b : Bool) : (s.setHalted b).clockCount = s.clockCount := rfl
@[simp] theorem State.setHalted_instructionCount (b : Bool) : (s.setHalted b).instructionCount = s.instructionCount := rfl
@[simp] theorem State.setHalted_consoleOut (b : Bool) : (s.setHalted b).consoleOut = s.consoleOut := rfl
@[simp] theorem State.setHalted_diagnostics (b : Bool) : (s.setHalted b).diagnostics = s.diagnostics := rfl
@[simp] theorem State.setHalted_store (b : Bool) : (s.setHalted b).store = s.store := rfl
@[simp] theorem State.setHalted_config (b : Bool) : (s.setHalted b).config = s.config := rfl

@[simp] theorem State.setInPort_regs (i : Fin 4) (v : Byte) : (s.setInPort i v).regs = s.regs := rfl
@[simp] theorem State.setInPort_flags (i : Fin 4) (v : Byte) : (s.setInPort i v).flags = s.flags := rfl
@[simp] theorem State.setInPort_sp (i : Fin 4) (v : Byte) : (s.setInPort i v).sp = s.sp := rfl
@[simp] theorem State.setInPort_pc (i : Fin 4) (v : Byte) : (s.setInPort i v).pc = s.pc := rfl
@[simp] theorem State.setInPort_ie (i : Fin 4) (v : Byte) : (s.setInPort i v).ie = s.ie := rfl
@[simp] theorem State.setInPort_halted (i : Fin 4) (v : Byte) : (s.setInPort i v).halted = s.halted := rfl
@[simp] theorem State.setInPort_inPort (i : Fin 4) (v : Byte) : (s.setInPort i v).inPort = s.inPort.set i v := rfl
@[simp] theorem State.setInPort_outPort (i : Fin 4) (v : Byte) : (s.setInPort i v).outPort = s.outPort := rfl
@[simp] theorem State.setInPort_shiftReg (i : Fin 4) (v : Byte) : (s.setInPort i v).shiftReg = s.shiftReg := rfl
@[simp] theorem State.setInPort_shiftOfs (i : Fin 4) (v : Byte) : (s.setInPort i v).shiftOfs = s.shiftOfs := rfl
@[simp] theorem State.setInPort_clockCount (i : Fin 4) (v : Byte) : (s.setInPort i v).clockCount = s.clockCount := rfl
@[simp] theorem State.setInPort_instructionCount (i : Fin 4) (v : Byte) : (s.setInPort i v).instructionCount = s.instructionCount := rfl
@[simp] theorem State.setInPort_consoleOut (i : Fin 4) (v : Byte) : (s.setInPort i v).consoleOut = s.consoleOut := rfl
@[simp] theorem State.setInPort_diagnostics (i : Fin 4) (v : Byte) : (s.setInPort i v).diagnostics = s.diagnostics := rfl
@[simp] theorem State.setInPort_store (i : Fin 4) (v : Byte) : (s.setInPort i v).store = s.store := rfl
@[simp] theorem State.setInPort_config (i : Fin 4) (v : Byte) : (s.setInPort i v).config = s.config := rfl

@[simp] theorem State.setOutPort_regs (i : Fin 7) (v : Byte) : (s.setOutPort i v).regs = s.regs := rfl
@[simp] theorem State.setOutPort_flags (i : Fin 7) (v : Byte) : (s.setOutPort i v).flags = s.flags := rfl
@[simp] theorem State.setOutPort_sp (i : Fin 7) (v : Byte) : (s.setOutPort i v).sp = s.sp := rfl
@[simp] theorem State.setOutPort_pc (i : Fin 7) (v : Byte) : (s.setOutPort i v).pc = s.pc := rfl
@[simp] theorem State.setOutPort_ie (i : Fin 7) (v : Byte) : (s.setOutPort i v).ie = s.ie := rfl
@[simp] theorem State.setOutPort_halted (i : Fin 7) (v : Byte) : (s.setOutPort i v).halted = s.halted := rfl
@[simp] theorem State.setOutPort_inPort (i : Fin 7) (v : Byte) : (s.setOutPort i v).inPort = s.inPort := rfl
@[simp] theorem State.setOutPort_outPort (i : Fin 7) (v : Byte) : (s.setOutPort i v).outPort = s.outPort.set i v := rfl
@[simp] theorem State.setOutPort_shiftReg (i : Fin 7) (v : Byte) : (s.setOutPort i v).shiftReg = s.shiftReg := rfl
@[simp] theorem State.setOutPort_shiftOfs (i : Fin 7) (v : Byte) : (s.setOutPort i v).shiftOfs = s.shiftOfs := rfl
@[simp] theorem State.setOutPort_clockCount (i : Fin 7) (v : Byte) : (s.setOutPort i v).clockCount = s.clockCount := rfl
@[simp] theorem State.setOutPort_instructionCount (i : Fin 7) (v : Byte) : (s.setOutPort i v).instructionCount = s.instructionCount := rfl
@[simp] theorem State.setOutPort_consoleOut (i : Fin 7) (v : Byte) : (s.setOutPort i v).consoleOut = s.consoleOut := rfl
@[simp] theorem State.setOutPort_diagnostics (i : Fin 7) (v : Byte) : (s.setOutPort i v).diagnostics = s.diagnostics := rfl
@[simp] theorem State.setOutPort_store (i : Fin 7) (v : Byte) : (s.setOutPort i v).store = s.store := rfl
@[simp] theorem State.setOutPort_config (i : Fin 7) (v : Byte) : (s.setOutPort i v).config = s.config := rfl

@[simp] theorem State.setShiftReg_regs (v : BitVec 16) : (s.setShiftReg v).regs = s.regs := rfl
@[simp] theorem State.setShiftReg_flags (v : BitVec 16) : (s.setShiftReg v).flags = s.flags := rfl
@[simp] theorem State.setShiftReg_sp (v : BitVec 16) : (s.setShiftReg v).sp = s.sp := rfl
@[simp] theorem State.setShiftReg_pc (v : BitVec 16) : (s.setShiftReg v).pc = s.pc := rfl
@[simp] theorem State.setShiftReg_ie (v : BitVec 16) : (s.setShiftReg v).ie = s.ie := rfl
@[simp] theorem State.setShiftReg_halted (v : BitVec 16) : (s.setShiftReg v).halted = s.halted := rfl
@[simp] theorem State.setShiftReg_inPort (v : BitVec 16) : (s.setShiftReg v).inPort = s.inPort := rfl
@[simp] theorem State.setShiftReg_outPort (v : BitVec 16) : (s.setShiftReg v).outPort = s.outPort := rfl
@[simp] theorem State.setShiftReg_shiftReg (v : BitVec 16) : (s.setShiftReg v).shiftReg = v := rfl
@[simp] theorem State.setShiftReg_shiftOfs (v : BitVec 16) : (s.setShiftReg v).shiftOfs = s.shiftOfs := rfl
@[simp] theorem State.setShiftReg_clockCount (v : BitVec 16) : (s.setShiftReg v).clockCount = s.clockCount := rfl
@[simp] theorem State.setShiftReg_instructionCount (v : BitVec 16) : (s.setShiftReg v).instructionCount = s.instructionCount := rfl
@[simp] theorem State.setShiftReg_consoleOut (v : BitVec 16) : (s.setShiftReg v).consoleOut = s.consoleOut := rfl
@[simp] theorem State.setShiftReg_diagnostics (v : BitVec 16) : (s.setShiftReg v).diagnostics = s.diagnostics := rfl
@[simp] theorem State.setShiftReg_store (v : BitVec 16) : (s.setShiftReg v).store = s.store := rfl
@[simp] theorem State.setShiftReg_config (v : BitVec 16) : (s.setShiftReg v).config = s.config := rfl

@[simp] theorem State.setShiftOfs_regs (v : BitVec 3) : (s.setShiftOfs v).regs = s.regs := rfl
@[simp] theorem State.setShiftOfs_flags (v : BitVec 3) : (s.setShiftOfs v).flags = s.flags := rfl
@[simp] theorem State.setShiftOfs_sp (v : BitVec 3) : (s.setShiftOfs v).sp = s.sp := rfl
@[simp] theorem State.setShiftOfs_pc (v : BitVec 3) : (s.setShiftOfs v).pc = s.pc := rfl
@[simp] theorem State.setShiftOfs_ie (v : BitVec 3) : (s.setShiftOfs v).ie = s.ie := rfl
@[simp] theorem State.setShiftOfs_halted (v : BitVec 3) : (s.setShiftOfs v).halted = s.halted := rfl
@[simp] theorem State.setShiftOfs_inPort (v : BitVec 3) : (s.setShiftOfs v).inPort = s.inPort := rfl
@[simp] theorem State.setShiftOfs_outPort (v : BitVec 3) : (s.setShiftOfs v).outPort = s.outPort := rfl
@[simp] theorem State.setShiftOfs_shiftReg (v : BitVec 3) : (s.setShiftOfs v).shiftReg = s.shiftReg := rfl
@[simp] theorem State.setShiftOfs_shiftOfs (v : BitVec 3) : (s.setShiftOfs v).shiftOfs = v := rfl
@[simp] theorem State.setShiftOfs_clockCount (v : BitVec 3) : (s.setShiftOfs v).clockCount = s.clockCount := rfl
@[simp] theorem State.setShiftOfs_instructionCount (v : BitVec 3) : (s.setShiftOfs v).instructionCount = s.instructionCount := rfl
@[simp] theorem State.setShiftOfs_consoleOut (v : BitVec 3) : (s.setShiftOfs v).consoleOut = s.consoleOut := rfl
@[simp] theorem State.setShiftOfs_diagnostics (v : BitVec 3) : (s.setShiftOfs v).diagnostics = s.diagnostics := rfl
@[simp] theorem State.setShiftOfs_store (v : BitVec 3) : (s.setShiftOfs v).store = s.store := rfl
@[simp] theorem State.setShiftOfs_config (v : BitVec 3) : (s.setShiftOfs v).config = s.config := rfl

@[simp] theorem State.addClock_regs (n : Nat) : (s.addClock n).regs = s.regs := rfl
@[simp] theorem State.addClock_flags (n : Nat) : (s.addClock n).flags = s.flags := rfl
@[simp] theorem State.addClock_sp (n : Nat) : (s.addClock n).sp = s.sp := rfl
@[simp] theorem State.addClock_pc (n : Nat) : (s.addClock n).pc = s.pc := rfl
@[simp] theorem State.addClock_ie (n : Nat) : (s.addClock n).ie = s.ie := rfl
@[simp] theorem State.addClock_halted (n : Nat) : (s.addClock n).halted = s.halted := rfl
@[simp] theorem State.addClock_inPort (n : Nat) : (s.addClock n).inPort = s.inPort := rfl
@[simp] theorem State.addClock_outPort (n : Nat) : (s.addClock n).outPort = s.outPort := rfl
@[simp] theorem State.addClock_shiftReg (n : Nat) : (s.addClock n).shiftReg = s.shiftReg := rfl
@[simp] theorem State.addClock_shiftOfs (n : Nat) : (s.addClock n).shiftOfs = s.shiftOfs := rfl
@[simp] theorem State.addClock_clockCount (n : Nat) : (s.addClock n).clockCount = s.clockCount + BitVec.ofNat 64 n := rfl
@[simp] theorem State.addClock_instructionCount (n : Nat) : (s.addClock n).instructionCount = s.instructionCount := rfl
@[simp] theorem State.addClock_consoleOut (n : Nat) : (s.addClock n).consoleOut = s.consoleOut := rfl
@[simp] theorem State.addClock_diagnostics (n : Nat) : (s.addClock n).diagnostics = s.diagnostics := rfl
@[simp] theorem State.addClock_store (n : Nat) : (s.addClock n).store = s.store := rfl
@[simp] theorem State.addClock_config (n : Nat) : (s.addClock n).config = s.config := rfl

@[simp] theorem State.setClockCount_regs (v : BitVec 64) : (s.setClockCount v).regs = s.regs := rfl
@[simp] theorem State.setClockCount_flags (v : BitVec 64) : (s.setClockCount v).flags = s.flags := rfl
@[simp] theorem State.setClockCount_sp (v : BitVec 64) : (s.setClockCount v).sp = s.sp := rfl
@[simp] theorem State.setClockCount_pc (v : BitVec 64) : (s.setClockCount v).pc = s.pc := rfl
@[simp] theorem State.setClockCount_ie (v : BitVec 64) : (s.setClockCount v).ie = s.ie := rfl
@[simp] theorem State.setClockCount_halted (v : BitVec 64) : (s.setClockCount v).halted = s.halted := rfl
@[simp] theorem State.setClockCount_inPort (v : BitVec 64) : (s.setClockCount v).inPort = s.inPort := rfl
@[simp] theorem State.setClockCount_outPort (v : BitVec 64) : (s.setClockCount v).outPort = s.outPort := rfl
@[simp] theorem State.setClockCount_shiftReg (v : BitVec 64) : (s.setClockCount v).shiftReg = s.shiftReg := rfl
@[simp] theorem State.setClockCount_shiftOfs (v : BitVec 64) : (s.setClockCount v).shiftOfs = s.shiftOfs := rfl
@[simp] theorem State.setClockCount_clockCount (v : BitVec 64) : (s.setClockCount v).clockCount = v := rfl
@[simp] theorem State.setClockCount_instructionCount (v : BitVec 64) : (s.setClockCount v).instructionCount = s.instructionCount := rfl
@[simp] theorem State.setClockCount_consoleOut (v : BitVec 64) : (s.setClockCount v).consoleOut = s.consoleOut := rfl
@[simp] theorem State.setClockCount_diagnostics (v : BitVec 64) : (s.setClockCount v).diagnostics = s.diagnostics := rfl
@[simp] theorem State.setClockCount_store (v : BitVec 64) : (s.setClockCount v).store = s.store := rfl
@[simp] theorem State.setClockCount_config (v : BitVec 64) : (s.setClockCount v).config = s.config := rfl

@[simp] theorem State.setInstructionCount_regs (v : BitVec 64) : (s.setInstructionCount v).regs = s.regs := rfl
@[simp] theorem State.setInstructionCount_flags (v : BitVec 64) : (s.setInstructionCount v).flags = s.flags := rfl
@[simp] theorem State.setInstructionCount_sp (v : BitVec 64) : (s.setInstructionCount v).sp = s.sp := rfl
@[simp] theorem State.setInstructionCount_pc (v : BitVec 64) : (s.setInstructionCount v).pc = s.pc := rfl
@[simp] theorem State.setInstructionCount_ie (v : BitVec 64) : (s.setInstructionCount v).ie = s.ie := rfl
@[simp] theorem State.setInstructionCount_halted (v : BitVec 64) : (s.setInstructionCount v).halted = s.halted := rfl
@[simp] theorem State.setInstructionCount_inPort (v : BitVec 64) : (s.setInstructionCount v).inPort = s.inPort := rfl
@[simp] theorem State.setInstructionCount_outPort (v : BitVec 64) : (s.setInstructionCount v).outPort = s.outPort := rfl
@[simp] theorem State.setInstructionCount_shiftReg (v : BitVec 64) : (s.setInstructionCount v).shiftReg = s.shiftReg := rfl
@[simp] theorem State.setInstructionCount_shiftOfs (v : BitVec 64) : (s.setInstructionCount v).shiftOfs = s.shiftOfs := rfl
@[simp] theorem State.setInstructionCount_clockCount (v : BitVec 64) : (s.setInstructionCount v).clockCount = s.clockCount := rfl
@[simp] theorem State.setInstructionCount_instructionCount (v : BitVec 64) : (s.setInstructionCount v).instructionCount = v := rfl
@[simp] theorem State.setInstructionCount_consoleOut (v : BitVec 64) : (s.setInstructionCount v).consoleOut = s.consoleOut := rfl
@[simp] theorem State.setInstructionCount_diagnostics (v : BitVec 64) : (s.setInstructionCount v).diagnostics = s.diagnostics := rfl
@[simp] theorem State.setInstructionCount_store (v : BitVec 64) : (s.setInstructionCount v).store = s.store := rfl
@[simp] theorem State.setInstructionCount_config (v : BitVec 64) : (s.setInstructionCount v).config = s.config := rfl

@[simp] theorem State.emit_regs (bs : List Byte) : (s.emit bs).regs = s.regs := rfl
@[simp] theorem State.emit_flags (bs : List Byte) : (s.emit bs).flags = s.flags := rfl
@[simp] theorem State.emit_sp (bs : List Byte) : (s.emit bs).sp = s.sp := rfl
@[simp] theorem State.emit_pc (bs : List Byte) : (s.emit bs).pc = s.pc := rfl
@[simp] theorem State.emit_ie (bs : List Byte) : (s.emit bs).ie = s.ie := rfl
@[simp] theorem State.emit_halted (bs : List Byte) : (s.emit bs).halted = s.halted := rfl
@[simp] theorem State.emit_inPort (bs : List Byte) : (s.emit bs).inPort = s.inPort := rfl
@[simp] theorem State.emit_outPort (bs : List Byte) : (s.emit bs).outPort = s.outPort := rfl
@[simp] theorem State.emit_shiftReg (bs : List Byte) : (s.emit bs).shiftReg = s.shiftReg := rfl
@[simp] theorem State.emit_shiftOfs (bs : List Byte) : (s.emit bs).shiftOfs = s.shiftOfs := rfl
@[simp] theorem State.emit_clockCount (bs : List Byte) : (s.emit bs).clockCount = s.clockCount := rfl
@[simp] theorem State.emit_instructionCount (bs : List Byte) : (s.emit bs).instructionCount = s.instructionCount := rfl
@[simp] theorem State.emit_consoleOut (bs : List Byte) : (s.emit bs).consoleOut = s.consoleOut ++ bs := rfl
@[simp] theorem State.emit_diagnostics (bs : List Byte) : (s.emit bs).diagnostics = s.diagnostics := rfl
@[simp] theorem State.emit_store (bs : List Byte) : (s.emit bs).store = s.store := rfl
@[simp] theorem State.emit_config (bs : List Byte) : (s.emit bs).config = s.config := rfl

@[simp] theorem State.report_regs (op : Byte) : (s.report op).regs = s.regs := rfl
@[simp] theorem State.report_flags (op : Byte) : (s.report op).flags = s.flags := rfl
@[simp] theorem State.report_sp (op : Byte) : (s.report op).sp = s.sp := rfl
@[simp] theorem State.report_pc (op : Byte) : (s.report op).pc = s.pc := rfl
@[simp] theorem State.report_ie (op : Byte) : (s.report op).ie = s.ie := rfl
@[simp] theorem State.report_halted (op : Byte) : (s.report op).halted = s.halted := rfl
@[simp] theorem State.report_inPort (op : Byte) : (s.report op).inPort = s.inPort := rfl
@[simp] theorem State.report_outPort (op : Byte) : (s.report op).outPort = s.outPort := rfl
@[simp] theorem State.report_shiftReg (op : Byte) : (s.report op).shiftReg = s.shiftReg := rfl
@[simp] theorem State.report_shiftOfs (op : Byte) : (s.report op).shiftOfs = s.shiftOfs := rfl
@[simp] theorem State.report_clockCount (op : Byte) : (s.report op).clockCount = s.clockCount := rfl
@[simp] theorem State.report_instructionCount (op : Byte) : (s.report op).instructionCount = s.instructionCount := rfl
@[simp] theorem State.report_consoleOut (op : Byte) : (s.report op).consoleOut = s.consoleOut := rfl
@[simp] theorem State.report_diagnostics (op : Byte) : (s.report op).diagnostics = s.diagnostics ++ [.unknownOpcode op] := rfl
@[simp] theorem State.report_store (op : Byte) : (s.report op).store = s.store := rfl
@[simp] theorem State.report_config (op : Byte) : (s.report op).config = s.config := rfl

@[simp] theorem State.setStore_regs (m : Memory) : (s.setStore m).regs = s.regs := rfl
@[simp] theorem State.setStore_flags (m : Memory) : (s.setStore m).flags = s.flags := rfl
@[simp] theorem State.setStore_sp (m : Memory) : (s.setStore m).sp = s.sp := rfl
@[simp] theorem State.setStore_pc (m : Memory) : (s.setStore m).pc = s.pc := rfl
@[simp] theorem State.setStore_ie (m : Memory) : (s.setStore m).ie = s.ie := rfl
@[simp] theorem State.setStore_halted (m : Memory) : (s.setStore m).halted = s.halted := rfl
@[simp] theorem State.setStore_inPort (m : Memory) : (s.setStore m).inPort = s.inPort := rfl
@[simp] theorem State.setStore_outPort (m : Memory) : (s.setStore m).outPort = s.outPort := rfl
@[simp] theorem State.setStore_shiftReg (m : Memory) : (s.setStore m).shiftReg = s.shiftReg := rfl
@[simp] theorem State.setStore_shiftOfs (m : Memory) : (s.setStore m).shiftOfs = s.shiftOfs := rfl
@[simp] theorem State.setStore_clockCount (m : Memory) : (s.setStore m).clockCount = s.clockCount := rfl
@[simp] theorem State.setStore_instructionCount (m : Memory) : (s.setStore m).instructionCount = s.instructionCount := rfl
@[simp] theorem State.setStore_consoleOut (m : Memory) : (s.setStore m).consoleOut = s.consoleOut := rfl
@[simp] theorem State.setStore_diagnostics (m : Memory) : (s.setStore m).diagnostics = s.diagnostics := rfl
@[simp] theorem State.setStore_store (m : Memory) : (s.setStore m).store = m := rfl
@[simp] theorem State.setStore_config (m : Memory) : (s.setStore m).config = s.config := rfl

@[simp] theorem State.setReg_regs (r : Reg8) (v : Byte) : (s.setReg r v).regs = s.regs.set r v := rfl
@[simp] theorem State.setReg_flags (r : Reg8) (v : Byte) : (s.setReg r v).flags = s.flags := rfl
@[simp] theorem State.setReg_sp (r : Reg8) (v : Byte) : (s.setReg r v).sp = s.sp := rfl
@[simp] theorem State.setReg_pc (r : Reg8) (v : Byte) : (s.setReg r v).pc = s.pc := rfl
@[simp] theorem State.setReg_ie (r : Reg8) (v : Byte) : (s.setReg r v).ie = s.ie := rfl
@[simp] theorem State.setReg_halted (r : Reg8) (v : Byte) : (s.setReg r v).halted = s.halted := rfl
@[simp] theorem State.setReg_inPort (r : Reg8) (v : Byte) : (s.setReg r v).inPort = s.inPort := rfl
@[simp] theorem State.setReg_outPort (r : Reg8) (v : Byte) : (s.setReg r v).outPort = s.outPort := rfl
@[simp] theorem State.setReg_shiftReg (r : Reg8) (v : Byte) : (s.setReg r v).shiftReg = s.shiftReg := rfl
@[simp] theorem State.setReg_shiftOfs (r : Reg8) (v : Byte) : (s.setReg r v).shiftOfs = s.shiftOfs := rfl
@[simp] theorem State.setReg_clockCount (r : Reg8) (v : Byte) : (s.setReg r v).clockCount = s.clockCount := rfl
@[simp] theorem State.setReg_instructionCount (r : Reg8) (v : Byte) : (s.setReg r v).instructionCount = s.instructionCount := rfl
@[simp] theorem State.setReg_consoleOut (r : Reg8) (v : Byte) : (s.setReg r v).consoleOut = s.consoleOut := rfl
@[simp] theorem State.setReg_diagnostics (r : Reg8) (v : Byte) : (s.setReg r v).diagnostics = s.diagnostics := rfl
@[simp] theorem State.setReg_store (r : Reg8) (v : Byte) : (s.setReg r v).store = s.store := rfl
@[simp] theorem State.setReg_config (r : Reg8) (v : Byte) : (s.setReg r v).config = s.config := rfl

@[simp] theorem State.setPair_regs (p : RegPair) (v : Word) : (s.setPair p v).regs = s.regs.setPair p v := rfl
@[simp] theorem State.setPair_flags (p : RegPair) (v : Word) : (s.setPair p v).flags = s.flags := rfl
@[simp] theorem State.setPair_sp (p : RegPair) (v : Word) : (s.setPair p v).sp = s.sp := rfl
@[simp] theorem State.setPair_pc (p : RegPair) (v : Word) : (s.setPair p v).pc = s.pc := rfl
@[simp] theorem State.setPair_ie (p : RegPair) (v : Word) : (s.setPair p v).ie = s.ie := rfl
@[simp] theorem State.setPair_halted (p : RegPair) (v : Word) : (s.setPair p v).halted = s.halted := rfl
@[simp] theorem State.setPair_inPort (p : RegPair) (v : Word) : (s.setPair p v).inPort = s.inPort := rfl
@[simp] theorem State.setPair_outPort (p : RegPair) (v : Word) : (s.setPair p v).outPort = s.outPort := rfl
@[simp] theorem State.setPair_shiftReg (p : RegPair) (v : Word) : (s.setPair p v).shiftReg = s.shiftReg := rfl
@[simp] theorem State.setPair_shiftOfs (p : RegPair) (v : Word) : (s.setPair p v).shiftOfs = s.shiftOfs := rfl
@[simp] theorem State.setPair_clockCount (p : RegPair) (v : Word) : (s.setPair p v).clockCount = s.clockCount := rfl
@[simp] theorem State.setPair_instructionCount (p : RegPair) (v : Word) : (s.setPair p v).instructionCount = s.instructionCount := rfl
@[simp] theorem State.setPair_consoleOut (p : RegPair) (v : Word) : (s.setPair p v).consoleOut = s.consoleOut := rfl
@[simp] theorem State.setPair_diagnostics (p : RegPair) (v : Word) : (s.setPair p v).diagnostics = s.diagnostics := rfl
@[simp] theorem State.setPair_store (p : RegPair) (v : Word) : (s.setPair p v).store = s.store := rfl
@[simp] theorem State.setPair_config (p : RegPair) (v : Word) : (s.setPair p v).config = s.config := rfl

/-! ### The 16-bit operands with SP -/

@[simp] theorem State.setPairSp_flags (p : PairSp) (v : Word) : (s.setPairSp p v).flags = s.flags := by cases p <;> rfl
@[simp] theorem State.setPairSp_pc (p : PairSp) (v : Word) : (s.setPairSp p v).pc = s.pc := by cases p <;> rfl
@[simp] theorem State.setPairSp_ie (p : PairSp) (v : Word) : (s.setPairSp p v).ie = s.ie := by cases p <;> rfl
@[simp] theorem State.setPairSp_halted (p : PairSp) (v : Word) : (s.setPairSp p v).halted = s.halted := by cases p <;> rfl
@[simp] theorem State.setPairSp_inPort (p : PairSp) (v : Word) : (s.setPairSp p v).inPort = s.inPort := by cases p <;> rfl
@[simp] theorem State.setPairSp_outPort (p : PairSp) (v : Word) : (s.setPairSp p v).outPort = s.outPort := by cases p <;> rfl
@[simp] theorem State.setPairSp_shiftReg (p : PairSp) (v : Word) : (s.setPairSp p v).shiftReg = s.shiftReg := by cases p <;> rfl
@[simp] theorem State.setPairSp_shiftOfs (p : PairSp) (v : Word) : (s.setPairSp p v).shiftOfs = s.shiftOfs := by cases p <;> rfl
@[simp] theorem State.setPairSp_clockCount (p : PairSp) (v : Word) : (s.setPairSp p v).clockCount = s.clockCount := by cases p <;> rfl
@[simp] theorem State.setPairSp_instructionCount (p : PairSp) (v : Word) : (s.setPairSp p v).instructionCount = s.instructionCount := by cases p <;> rfl
@[simp] theorem State.setPairSp_consoleOut (p : PairSp) (v : Word) : (s.setPairSp p v).consoleOut = s.consoleOut := by cases p <;> rfl
@[simp] theorem State.setPairSp_diagnostics (p : PairSp) (v : Word) : (s.setPairSp p v).diagnostics = s.diagnostics := by cases p <;> rfl
@[simp] theorem State.setPairSp_store (p : PairSp) (v : Word) : (s.setPairSp p v).store = s.store := by cases p <;> rfl
@[simp] theorem State.setPairSp_config (p : PairSp) (v : Word) : (s.setPairSp p v).config = s.config := by cases p <;> rfl

/-! ### Registers after a register write -/

@[simp] theorem Regs.get_set_self (r : Reg8) (v : Byte) (g : Regs) : (g.set r v).get r = v := by cases r <;> rfl

theorem Regs.get_set_of_ne {r r' : Reg8} (h : r' ≠ r) (v : Byte) (g : Regs) : (g.set r v).get r' = g.get r' := by
  cases r <;> cases r' <;> first | rfl | exact absurd rfl h

@[simp] theorem State.reg_setReg_self (r : Reg8) (v : Byte) : (s.setReg r v).reg r = v := Regs.get_set_self r v s.regs

theorem State.reg_setReg_of_ne {r r' : Reg8} (h : r' ≠ r) (v : Byte) : (s.setReg r v).reg r' = s.reg r' :=
  Regs.get_set_of_ne h v s.regs

@[simp] theorem State.reg_setFlags (r : Reg8) (f : Flags) : (s.setFlags f).reg r = s.reg r := rfl
@[simp] theorem State.reg_setSp (r : Reg8) (v : Word) : (s.setSp v).reg r = s.reg r := rfl
@[simp] theorem State.reg_setPc (r : Reg8) (v : Word) : (s.setPc v).reg r = s.reg r := rfl
@[simp] theorem State.reg_setIe (r : Reg8) (b : Bool) : (s.setIe b).reg r = s.reg r := rfl
@[simp] theorem State.reg_setHalted (r : Reg8) (b : Bool) : (s.setHalted b).reg r = s.reg r := rfl
@[simp] theorem State.reg_setInPort (r : Reg8) (i : Fin 4) (v : Byte) : (s.setInPort i v).reg r = s.reg r := rfl
@[simp] theorem State.reg_setOutPort (r : Reg8) (i : Fin 7) (v : Byte) : (s.setOutPort i v).reg r = s.reg r := rfl
@[simp] theorem State.reg_setShiftReg (r : Reg8) (v : BitVec 16) : (s.setShiftReg v).reg r = s.reg r := rfl
@[simp] theorem State.reg_setShiftOfs (r : Reg8) (v : BitVec 3) : (s.setShiftOfs v).reg r = s.reg r := rfl
@[simp] theorem State.reg_addClock (r : Reg8) (n : Nat) : (s.addClock n).reg r = s.reg r := rfl
@[simp] theorem State.reg_setClockCount (r : Reg8) (v : BitVec 64) : (s.setClockCount v).reg r = s.reg r := rfl
@[simp] theorem State.reg_setInstructionCount (r : Reg8) (v : BitVec 64) : (s.setInstructionCount v).reg r = s.reg r := rfl
@[simp] theorem State.reg_emit (r : Reg8) (bs : List Byte) : (s.emit bs).reg r = s.reg r := rfl
@[simp] theorem State.reg_report (r : Reg8) (op : Byte) : (s.report op).reg r = s.reg r := rfl
@[simp] theorem State.reg_setStore (r : Reg8) (m : Memory) : (s.setStore m).reg r = s.reg r := rfl

@[simp] theorem State.pair_setFlags (p : RegPair) (f : Flags) : (s.setFlags f).pair p = s.pair p := rfl
@[simp] theorem State.pair_setSp (p : RegPair) (v : Word) : (s.setSp v).pair p = s.pair p := rfl
@[simp] theorem State.pair_setPc (p : RegPair) (v : Word) : (s.setPc v).pair p = s.pair p := rfl
@[simp] theorem State.pair_setIe (p : RegPair) (b : Bool) : (s.setIe b).pair p = s.pair p := rfl
@[simp] theorem State.pair_setHalted (p : RegPair) (b : Bool) : (s.setHalted b).pair p = s.pair p := rfl
@[simp] theorem State.pair_setInPort (p : RegPair) (i : Fin 4) (v : Byte) : (s.setInPort i v).pair p = s.pair p := rfl
@[simp] theorem State.pair_setOutPort (p : RegPair) (i : Fin 7) (v : Byte) : (s.setOutPort i v).pair p = s.pair p := rfl
@[simp] theorem State.pair_setShiftReg (p : RegPair) (v : BitVec 16) : (s.setShiftReg v).pair p = s.pair p := rfl
@[simp] theorem State.pair_setShiftOfs (p : RegPair) (v : BitVec 3) : (s.setShiftOfs v).pair p = s.pair p := rfl
@[simp] theorem State.pair_addClock (p : RegPair) (n : Nat) : (s.addClock n).pair p = s.pair p := rfl
@[simp] theorem State.pair_setClockCount (p : RegPair) (v : BitVec 64) : (s.setClockCount v).pair p = s.pair p := rfl
@[simp] theorem State.pair_setInstructionCount (p : RegPair) (v : BitVec 64) : (s.setInstructionCount v).pair p = s.pair p := rfl
@[simp] theorem State.pair_emit (p : RegPair) (bs : List Byte) : (s.emit bs).pair p = s.pair p := rfl
@[simp] theorem State.pair_report (p : RegPair) (op : Byte) : (s.report op).pair p = s.pair p := rfl
@[simp] theorem State.pair_setStore (p : RegPair) (m : Memory) : (s.setStore m).pair p = s.pair p := rfl

/-! ### An update with the old value changes nothing -/

@[simp] theorem State.setRegs_self : s.setRegs s.regs = s := rfl
@[simp] theorem State.setFlags_self : s.setFlags s.flags = s := rfl
@[simp] theorem State.setStore_self : s.setStore s.store = s := rfl
@[simp] theorem State.setSp_self : s.setSp s.sp = s := rfl
@[simp] theorem State.setPc_self : s.setPc s.pc = s := rfl
@[simp] theorem State.setIe_self : s.setIe s.ie = s := rfl
@[simp] theorem State.setHalted_self : s.setHalted s.halted = s := rfl

end Sys2Proof.Machine
end

