-- ==== Sys2Proof/Laws/Ops.lean ====
section
/-! SUPPORT. One law for each shared operation of `Machine/Ops.lean` and `Machine/Operands.lean`: what it can do, and which
fields it leaves alone. -/

namespace Sys2Proof.Machine

variable {α σ : Type} {s t : State} {addr : Word}

/-! ### Going on or stopping -/

@[simp] theorem orFault_ok (v : α) (k : α → Host.Outcome σ Fault Refusal) : orFault (.ok v) k = k v := rfl

@[simp] theorem orFault_error (f : Fault) (k : α → Host.Outcome σ Fault Refusal) :
    orFault (.error f) k = .fault f := rfl

theorem orFault_next {r : Except Fault α} {k : α → Host.Outcome σ Fault Refusal} {x : σ}
    (h : orFault r k = .next x) : ∃ v, r = .ok v ∧ k v = .next x := by
  cases r with
  | ok v => exact ⟨v, rfl, h⟩
  | error f => exact absurd h (by simp)

/-! ### The resolver -/

theorem resolve_lt {mode : Mode} {c : Nat} (h : resolve mode addr = some c) : c < 65536 := by
  have := addr.isLt
  unfold resolve at h
  split at h
  · simp only [Option.some.injEq] at h; omega
  · split at h
    · simp only [Option.some.injEq] at h; omega
    · split at h
      · simp only [Option.some.injEq] at h; omega
      · exact absurd h (by simp)

/-- An accepted write lands in the one cell of its address; in arcade mode that cell is in the RAM region. -/
theorem resolve_of_writeAllowed {mode : Mode} (h : writeAllowed mode addr = true) :
    ∃ c, resolve mode addr = some c ∧ (mode = .arcade → 0x2000 ≤ c ∧ c ≤ 0x3FFF) := by
  cases mode with
  | console => exact ⟨_, rfl, fun h => by cases h⟩
  | arcade =>
    simp only [writeAllowed, Bool.and_eq_true, decide_eq_true_eq] at h
    unfold resolve
    by_cases h1 : addr.toNat ≤ 0x3FFF
    · exact ⟨_, if_pos h1, fun _ => ⟨by omega, by omega⟩⟩
    · exact ⟨addr.toNat - 0x2000, by simp only [if_neg h1, if_pos (show addr.toNat ≤ 0x43FF by omega)],
        fun _ => ⟨by omega, by omega⟩⟩

theorem writeAllowed_iff : writeAllowed s.config.mode addr = true ↔ CanWrite s addr := by
  unfold writeAllowed CanWrite
  cases s.config.mode <;> simp

theorem resolve_of_canRead (h : CanRead s addr) : ∃ c, resolve s.config.mode addr = some c := by
  unfold CanRead at h
  unfold resolve
  cases hm : s.config.mode with
  | console => exact ⟨_, rfl⟩
  | arcade =>
    simp only [hm, reduceCtorEq, false_or] at h
    by_cases h1 : addr.toNat ≤ 0x3FFF
    · exact ⟨_, if_pos h1⟩
    · exact ⟨addr.toNat - 0x2000, by simp only [if_neg h1, if_pos (show addr.toNat ≤ 0x43FF by omega)]⟩

theorem resolve_of_not_canRead (h : ¬ CanRead s addr) : resolve s.config.mode addr = none := by
  unfold CanRead at h
  unfold resolve
  cases hm : s.config.mode with
  | console => exact absurd (Or.inl hm) h
  | arcade =>
    simp only [hm, reduceCtorEq, false_or] at h
    simp only [if_neg (show ¬ addr.toNat ≤ 0x3FFF by omega), if_neg (show ¬ addr.toNat ≤ 0x43FF by omega)]

/-! ### Reads -/

theorem readByte_of_resolve {c : Nat} (h : resolve s.config.mode addr = some c) :
    readByte s addr = .ok (s.store.read c) := by
  unfold readByte
  rw [h]

theorem readByte_ok (h : CanRead s addr) : ∃ v, readByte s addr = .ok v := by
  obtain ⟨c, hc⟩ := resolve_of_canRead h
  exact ⟨_, readByte_of_resolve hc⟩

theorem readByte_unmapped (h : ¬ CanRead s addr) : readByte s addr = .error (.unmappedRead addr) := by
  unfold readByte
  rw [resolve_of_not_canRead h]

/-- A byte read depends on the mode and the store alone. -/
theorem readByte_congr (hc : t.config = s.config) (hm : t.store = s.store) : readByte t addr = readByte s addr := by
  unfold readByte
  rw [hc, hm]

theorem readWord_congr (hc : t.config = s.config) (hm : t.store = s.store) : readWord t addr = readWord s addr := by
  unfold readWord
  simp only [readByte_congr hc hm]

theorem readWord_of_bytes {lo hi : Byte} (hl : readByte s addr = .ok lo) (hh : readByte s (addr + 1) = .ok hi) :
    readWord s addr = .ok (wordOf hi lo) := by
  unfold readWord
  simp only [hl, hh]

theorem readWord_ok (h : CanReadWord s addr) : ∃ v, readWord s addr = .ok v := by
  obtain ⟨lo, hl⟩ := readByte_ok h.1
  obtain ⟨hi, hh⟩ := readByte_ok h.2
  exact ⟨_, readWord_of_bytes hl hh⟩

theorem rd8_ok {o : Operand} (h : CanReadOperand s o) : ∃ v, rd8 o s = .ok v := by
  cases o with
  | reg r => exact ⟨_, rfl⟩
  | m => exact readByte_ok (h rfl)

/-! ### Byte writes -/

/-- A byte write is dropped, or writes the one cell of its address. -/
theorem writeByte_cases (addr : Word) (v : Byte) (s : State) :
    (¬ CanWrite s addr ∧ writeByte addr v s = s) ∨
      (CanWrite s addr ∧ ∃ c, resolve s.config.mode addr = some c ∧
        (s.config.mode = .arcade → 0x2000 ≤ c ∧ c ≤ 0x3FFF) ∧ writeByte addr v s = s.setStore (s.store.write c v)) := by
  unfold writeByte
  by_cases h : writeAllowed s.config.mode addr = true
  · obtain ⟨c, hc, hr⟩ := resolve_of_writeAllowed h
    exact Or.inr ⟨writeAllowed_iff.mp h, c, hc, hr, by rw [if_pos h, hc]⟩
  · exact Or.inl ⟨fun hw => h (writeAllowed_iff.mpr hw), by rw [if_neg h]⟩

theorem writeByte_setStore (addr : Word) (v : Byte) (s : State) :
    writeByte addr v s = s.setStore (writeByte addr v s).store := by
  rcases writeByte_cases addr v s with ⟨-, h⟩ | ⟨-, c, -, -, h⟩ <;> rw [h] <;> rfl

/-- A dropped write changes nothing at all (`20_memory.md` R65). -/
theorem writeByte_dropped {v : Byte} (h : ¬ CanWrite s addr) : writeByte addr v s = s := by
  rcases writeByte_cases addr v s with ⟨-, h'⟩ | ⟨hw, -⟩
  · exact h'
  · exact absurd hw h

theorem writeByte_accepted {v : Byte} (h : CanWrite s addr) :
    ∃ c, resolve s.config.mode addr = some c ∧ writeByte addr v s = s.setStore (s.store.write c v) := by
  rcases writeByte_cases addr v s with ⟨hw, -⟩ | ⟨-, c, hc, -, h'⟩
  · exact absurd h hw
  · exact ⟨c, hc, h'⟩

@[simp] theorem writeByte_regs (addr : Word) (v : Byte) (s : State) : (writeByte addr v s).regs = s.regs := by
  rw [writeByte_setStore]; rfl
@[simp] theorem writeByte_flags (addr : Word) (v : Byte) (s : State) : (writeByte addr v s).flags = s.flags := by
  rw [writeByte_setStore]; rfl
@[simp] theorem writeByte_sp (addr : Word) (v : Byte) (s : State) : (writeByte addr v s).sp = s.sp := by
  rw [writeByte_setStore]; rfl
@[simp] theorem writeByte_pc (addr : Word) (v : Byte) (s : State) : (writeByte addr v s).pc = s.pc := by
  rw [writeByte_setStore]; rfl
@[simp] theorem writeByte_ie (addr : Word) (v : Byte) (s : State) : (writeByte addr v s).ie = s.ie := by
  rw [writeByte_setStore]; rfl
@[simp] theorem writeByte_halted (addr : Word) (v : Byte) (s : State) : (writeByte addr v s).halted = s.halted := by
  rw [writeByte_setStore]; rfl
@[simp] theorem writeByte_inPort (addr : Word) (v : Byte) (s : State) : (writeByte addr v s).inPort = s.inPort := by
  rw [writeByte_setStore]; rfl
@[simp] theorem writeByte_outPort (addr : Word) (v : Byte) (s : State) : (writeByte addr v s).outPort = s.outPort := by
  rw [writeByte_setStore]; rfl
@[simp] theorem writeByte_shiftReg (addr : Word) (v : Byte) (s : State) : (writeByte addr v s).shiftReg = s.shiftReg := by
  rw [writeByte_setStore]; rfl
@[simp] theorem writeByte_shiftOfs (addr : Word) (v : Byte) (s : State) : (writeByte addr v s).shiftOfs = s.shiftOfs := by
  rw [writeByte_setStore]; rfl
@[simp] theorem writeByte_clockCount (addr : Word) (v : Byte) (s : State) : (writeByte addr v s).clockCount = s.clockCount := by
  rw [writeByte_setStore]; rfl
@[simp] theorem writeByte_instructionCount (addr : Word) (v : Byte) (s : State) : (writeByte addr v s).instructionCount = s.instructionCount := by
  rw [writeByte_setStore]; rfl
@[simp] theorem writeByte_consoleOut (addr : Word) (v : Byte) (s : State) : (writeByte addr v s).consoleOut = s.consoleOut := by
  rw [writeByte_setStore]; rfl
@[simp] theorem writeByte_diagnostics (addr : Word) (v : Byte) (s : State) : (writeByte addr v s).diagnostics = s.diagnostics := by
  rw [writeByte_setStore]; rfl
@[simp] theorem writeByte_config (addr : Word) (v : Byte) (s : State) : (writeByte addr v s).config = s.config := by
  rw [writeByte_setStore]; rfl

@[simp] theorem writeByte_reg (addr : Word) (v : Byte) (s : State) (r : Reg8) : (writeByte addr v s).reg r = s.reg r := by
  rw [writeByte_setStore]; rfl

/-- A read through another cell is not touched by a byte write. -/
theorem readByte_writeByte_of_ne {x : Word} {v : Byte} (h : ¬ SameCell s x addr) :
    readByte (writeByte addr v s) x = readByte s x := by
  rcases writeByte_cases addr v s with ⟨-, h'⟩ | ⟨-, c, hc, -, h'⟩
  · rw [h']
  · rw [h']
    unfold readByte
    simp only [State.setStore_config, State.setStore_store]
    cases hx : resolve s.config.mode x with
    | none => rfl
    | some d =>
      have : c ≠ d := fun hcd => h (by rw [SameCell, hx, hc, hcd])
      simp only [Memory.read_write_of_ne _ this]

/-- An accepted write is read back through every address of its cell. -/
theorem readByte_writeByte_of_same {x : Word} {v : Byte} (hinv : s.Inv) (hw : CanWrite s addr) (h : SameCell s x addr) :
    readByte (writeByte addr v s) x = .ok v := by
  obtain ⟨c, hc, h'⟩ := writeByte_accepted (v := v) hw
  rw [h']
  unfold readByte
  simp only [State.setStore_config, State.setStore_store]
  rw [h, hc]
  simp [Memory.read_write hinv]

theorem writeByte_inv {v : Byte} (h : s.Inv) : (writeByte addr v s).Inv := by
  rcases writeByte_cases addr v s with ⟨-, h'⟩ | ⟨-, c, hc, -, h'⟩
  · rwa [h']
  · rw [h']
    exact Memory.wf_write v (resolve_lt hc) h

/-! ### Word writes, the stack and calls -/

@[simp] theorem writeWord_regs (addr v : Word) (s : State) : (writeWord addr v s).regs = s.regs := by
  simp [writeWord]
@[simp] theorem writeWord_flags (addr v : Word) (s : State) : (writeWord addr v s).flags = s.flags := by
  simp [writeWord]
@[simp] theorem writeWord_sp (addr v : Word) (s : State) : (writeWord addr v s).sp = s.sp := by
  simp [writeWord]
@[simp] theorem writeWord_pc (addr v : Word) (s : State) : (writeWord addr v s).pc = s.pc := by
  simp [writeWord]
@[simp] theorem writeWord_ie (addr v : Word) (s : State) : (writeWord addr v s).ie = s.ie := by
  simp [writeWord]
@[simp] theorem writeWord_halted (addr v : Word) (s : State) : (writeWord addr v s).halted = s.halted := by
  simp [writeWord]
@[simp] theorem writeWord_inPort (addr v : Word) (s : State) : (writeWord addr v s).inPort = s.inPort := by
  simp [writeWord]
@[simp] theorem writeWord_outPort (addr v : Word) (s : State) : (writeWord addr v s).outPort = s.outPort := by
  simp [writeWord]
@[simp] theorem writeWord_shiftReg (addr v : Word) (s : State) : (writeWord addr v s).shiftReg = s.shiftReg := by
  simp [writeWord]
@[simp] theorem writeWord_shiftOfs (addr v : Word) (s : State) : (writeWord addr v s).shiftOfs = s.shiftOfs := by
  simp [writeWord]
@[simp] theorem writeWord_clockCount (addr v : Word) (s : State) : (writeWord addr v s).clockCount = s.clockCount := by
  simp [writeWord]
@[simp] theorem writeWord_instructionCount (addr v : Word) (s : State) : (writeWord addr v s).instructionCount = s.instructionCount := by
  simp [writeWord]
@[simp] theorem writeWord_consoleOut (addr v : Word) (s : State) : (writeWord addr v s).consoleOut = s.consoleOut := by
  simp [writeWord]
@[simp] theorem writeWord_diagnostics (addr v : Word) (s : State) : (writeWord addr v s).diagnostics = s.diagnostics := by
  simp [writeWord]
@[simp] theorem writeWord_config (addr v : Word) (s : State) : (writeWord addr v s).config = s.config := by
  simp [writeWord]

@[simp] theorem push16_regs (v : Word) (s : State) : (push16 v s).regs = s.regs := by simp [push16]
@[simp] theorem push16_flags (v : Word) (s : State) : (push16 v s).flags = s.flags := by simp [push16]
@[simp] theorem push16_pc (v : Word) (s : State) : (push16 v s).pc = s.pc := by simp [push16]
@[simp] theorem push16_ie (v : Word) (s : State) : (push16 v s).ie = s.ie := by simp [push16]
@[simp] theorem push16_halted (v : Word) (s : State) : (push16 v s).halted = s.halted := by simp [push16]
@[simp] theorem push16_inPort (v : Word) (s : State) : (push16 v s).inPort = s.inPort := by simp [push16]
@[simp] theorem push16_outPort (v : Word) (s : State) : (push16 v s).outPort = s.outPort := by simp [push16]
@[simp] theorem push16_shiftReg (v : Word) (s : State) : (push16 v s).shiftReg = s.shiftReg := by simp [push16]
@[simp] theorem push16_shiftOfs (v : Word) (s : State) : (push16 v s).shiftOfs = s.shiftOfs := by simp [push16]
@[simp] theorem push16_clockCount (v : Word) (s : State) : (push16 v s).clockCount = s.clockCount := by simp [push16]
@[simp] theorem push16_instructionCount (v : Word) (s : State) : (push16 v s).instructionCount = s.instructionCount := by simp [push16]
@[simp] theorem push16_consoleOut (v : Word) (s : State) : (push16 v s).consoleOut = s.consoleOut := by simp [push16]
@[simp] theorem push16_diagnostics (v : Word) (s : State) : (push16 v s).diagnostics = s.diagnostics := by simp [push16]
@[simp] theorem push16_config (v : Word) (s : State) : (push16 v s).config = s.config := by simp [push16]
@[simp] theorem push16_sp (v : Word) (s : State) : (push16 v s).sp = s.sp - 2 := by simp [push16]

@[simp] theorem callTo_regs (target : Word) (s : State) : (callTo target s).regs = s.regs := by simp [callTo]
@[simp] theorem callTo_flags (target : Word) (s : State) : (callTo target s).flags = s.flags := by simp [callTo]
@[simp] theorem callTo_ie (target : Word) (s : State) : (callTo target s).ie = s.ie := by simp [callTo]
@[simp] theorem callTo_halted (target : Word) (s : State) : (callTo target s).halted = s.halted := by simp [callTo]
@[simp] theorem callTo_inPort (target : Word) (s : State) : (callTo target s).inPort = s.inPort := by simp [callTo]
@[simp] theorem callTo_outPort (target : Word) (s : State) : (callTo target s).outPort = s.outPort := by simp [callTo]
@[simp] theorem callTo_shiftReg (target : Word) (s : State) : (callTo target s).shiftReg = s.shiftReg := by simp [callTo]
@[simp] theorem callTo_shiftOfs (target : Word) (s : State) : (callTo target s).shiftOfs = s.shiftOfs := by simp [callTo]
@[simp] theorem callTo_clockCount (target : Word) (s : State) : (callTo target s).clockCount = s.clockCount := by simp [callTo]
@[simp] theorem callTo_instructionCount (target : Word) (s : State) : (callTo target s).instructionCount = s.instructionCount := by simp [callTo]
@[simp] theorem callTo_consoleOut (target : Word) (s : State) : (callTo target s).consoleOut = s.consoleOut := by simp [callTo]
@[simp] theorem callTo_diagnostics (target : Word) (s : State) : (callTo target s).diagnostics = s.diagnostics := by simp [callTo]
@[simp] theorem callTo_config (target : Word) (s : State) : (callTo target s).config = s.config := by simp [callTo]
@[simp] theorem callTo_sp (target : Word) (s : State) : (callTo target s).sp = s.sp - 2 := by simp [callTo]
@[simp] theorem callTo_pc (target : Word) (s : State) : (callTo target s).pc = target := rfl

theorem pop16_ok {p : Word × State} (h : pop16 s = .ok p) :
    readWord s s.sp = .ok p.1 ∧ p.2 = s.setSp (s.sp + 2) := by
  unfold pop16 at h
  split at h
  · exact absurd h (by simp)
  · simp only [Except.ok.injEq] at h
    subst h
    exact ⟨‹_›, rfl⟩

theorem returnToCaller_next (h : returnToCaller s = .next t) :
    ∃ v, readWord s s.sp = .ok v ∧ t = (s.setSp (s.sp + 2)).setPc v := by
  obtain ⟨p, hp, ht⟩ := orFault_next h
  obtain ⟨hv, hs⟩ := pop16_ok hp
  simp only [Host.Outcome.next.injEq] at ht
  exact ⟨p.1, hv, by rw [← ht, hs]⟩

/-- A fetch at an address that can be read gives its byte and moves PC past it. -/
theorem fetch8_of_read {v : Byte} (h : readByte s s.pc = .ok v) : fetch8 s = .ok (v, s.setPc (s.pc + 1)) := by
  unfold fetch8
  rw [h]

/-- A fetch at an unmapped address stops there. -/
theorem fetch8_unmapped (h : ¬ CanRead s s.pc) : fetch8 s = .error (.unmappedRead s.pc) := by
  unfold fetch8
  rw [readByte_unmapped h]

theorem fetch8_ok {r : Byte × State} (h : fetch8 s = .ok r) :
    readByte s s.pc = .ok r.1 ∧ r.2 = s.setPc (s.pc + 1) := by
  unfold fetch8 at h
  split at h
  · exact absurd h (by simp)
  · simp only [Except.ok.injEq] at h
    subst h
    exact ⟨‹_›, rfl⟩

theorem fetch16_ok {r : Word × State} (h : fetch16 s = .ok r) :
    ∃ lo hi, readByte s s.pc = .ok lo ∧ readByte s (s.pc + 1) = .ok hi ∧ r.1 = wordOf hi lo ∧
      r.2 = s.setPc (s.pc + 1 + 1) := by
  unfold fetch16 at h
  split at h
  · exact absurd h (by simp)
  · rename_i lo s1 h1
    split at h
    · exact absurd h (by simp)
    · rename_i hi s2 h2
      simp only [Except.ok.injEq] at h
      obtain ⟨hlo, hs1⟩ := fetch8_ok h1
      obtain ⟨hhi, hs2⟩ := fetch8_ok h2
      simp only at hlo hs1 hhi hs2
      subst hs1
      refine ⟨lo, hi, hlo, hhi, ?_, ?_⟩
      · rw [← h]
      · rw [← h]
        exact hs2

/-! ### Runs of byte writes -/

/-- Byte writes one after the other. -/
def writeAll : List (Word × Byte) → State → State
  | [], s => s
  | w :: ws, s => writeAll ws (writeByte w.1 w.2 s)

theorem writeAll_config (ws : List (Word × Byte)) (s : State) : (writeAll ws s).config = s.config := by
  induction ws generalizing s with
  | nil => rfl
  | cons w ws ih => rw [writeAll, ih, writeByte_config]

theorem writeAll_inv (ws : List (Word × Byte)) {s : State} (h : s.Inv) : (writeAll ws s).Inv := by
  induction ws generalizing s with
  | nil => exact h
  | cons w ws ih => exact ih (writeByte_inv h)

/-- In arcade mode byte writes reach no cell outside the RAM region (`20_memory.md` R65). -/
theorem writeAll_outside_ram (ws : List (Word × Byte)) {s : State} (hm : s.config.mode = .arcade) {c : Nat}
    (hc : c < 0x2000 ∨ 0x3FFF < c) : (writeAll ws s).store.read c = s.store.read c := by
  induction ws generalizing s with
  | nil => rfl
  | cons w ws ih =>
    rw [writeAll, ih (by rw [writeByte_config, hm])]
    rcases writeByte_cases w.1 w.2 s with ⟨-, h'⟩ | ⟨-, d, -, hd, h'⟩
    · rw [h']
    · rw [h', State.setStore_store, Memory.read_write_of_ne]
      have := hd hm
      omega

end Sys2Proof.Machine
end

