-- ==== Sys2Proof/Laws/Exec.lean ====
section
/-! SUPPORT. What the meaning of an instruction can do at all: one law for each shared operation, and from them one law for
`exec`. Invariants of the step are read off it. -/

namespace Sys2Proof.Machine

/-- The bounds of every instruction: the store changes by byte writes only, and what no instruction touches stays. -/
structure Effect (s t : State) : Prop where
  store : ∃ ws, t.store = (writeAll ws s).store
  config : t.config = s.config
  inPort : t.inPort = s.inPort
  instructionCount : t.instructionCount = s.instructionCount
  consoleOut : t.consoleOut = s.consoleOut
  diagnostics : s.diagnostics <+: t.diagnostics
  halted : s.halted = true → t.halted = true

variable {s t : State}

/-- An effect that leaves the store, the streams and `Halted` alone. -/
theorem Effect.of_eqs (h1 : t.store = s.store) (h2 : t.config = s.config) (h3 : t.inPort = s.inPort)
    (h4 : t.instructionCount = s.instructionCount) (h5 : t.consoleOut = s.consoleOut)
    (h6 : t.diagnostics = s.diagnostics) (h7 : t.halted = s.halted) : Effect s t :=
  ⟨⟨[], h1⟩, h2, h3, h4, h5, by rw [h6], by rw [h7]; exact id⟩

theorem Effect.refl (s : State) : Effect s s := Effect.of_eqs rfl rfl rfl rfl rfl rfl rfl

/-- An effect followed by changes of other fields. -/
theorem Effect.then_eqs {u : State} (h : Effect s t) (h1 : u.store = t.store) (h2 : u.config = t.config)
    (h3 : u.inPort = t.inPort) (h4 : u.instructionCount = t.instructionCount) (h5 : u.consoleOut = t.consoleOut)
    (h6 : u.diagnostics = t.diagnostics) (h7 : u.halted = t.halted) : Effect s u where
  store := by obtain ⟨ws, hw⟩ := h.store; exact ⟨ws, h1.trans hw⟩
  config := h2.trans h.config
  inPort := h3.trans h.inPort
  instructionCount := h4.trans h.instructionCount
  consoleOut := h5.trans h.consoleOut
  diagnostics := by rw [h6]; exact h.diagnostics
  halted := by rw [h7]; exact h.halted

theorem writeByte_effect (addr : Word) (v : Byte) (s : State) : Effect s (writeByte addr v s) :=
  ⟨⟨[(addr, v)], rfl⟩, by simp, by simp, by simp, by simp, by simp, by simp⟩

theorem writeWord_effect (addr v : Word) (s : State) : Effect s (writeWord addr v s) :=
  ⟨⟨[(addr, lowByte v), (addr + 1, highByte v)], rfl⟩, by simp, by simp, by simp, by simp, by simp, by simp⟩

theorem writeAll_store_congr (ws : List (Word × Byte)) {s u : State} (hm : u.store = s.store)
    (hc : u.config = s.config) : (writeAll ws u).store = (writeAll ws s).store := by
  induction ws generalizing s u with
  | nil => exact hm
  | cons w ws ih =>
    refine ih ?_ (by simp [hc])
    unfold writeByte
    simp only [hc, hm]
    split
    · split <;> simp [hm]
    · exact hm

theorem push16_effect (v : Word) (s : State) : Effect s (push16 v s) where
  store := ⟨[(s.sp - 2, lowByte v), (s.sp - 2 + 1, highByte v)], by
    exact writeAll_store_congr (u := s.setSp (s.sp - 2)) [(s.sp - 2, lowByte v), (s.sp - 2 + 1, highByte v)] rfl rfl⟩
  config := by simp
  inPort := by simp
  instructionCount := by simp
  consoleOut := by simp
  diagnostics := by simp
  halted := by simp

theorem callTo_effect (target : Word) (s : State) : Effect s (callTo target s) :=
  (push16_effect s.pc s).then_eqs rfl rfl rfl rfl rfl rfl rfl

theorem wr8_effect (o : Operand) (v : Byte) (s : State) : Effect s (wr8 o v s) := by
  cases o with
  | reg r => exact Effect.of_eqs rfl rfl rfl rfl rfl rfl rfl
  | m => exact writeByte_effect s.hl v s

theorem next_effect {u : State} (h : (Host.Outcome.next u : Result) = .next t) (hu : Effect s u) : Effect s t := by
  simp only [Host.Outcome.next.injEq] at h
  exact h ▸ hu

/-! ### One law for each shared operation -/

theorem moveByte_effect {dst src : Operand} (h : moveByte dst src s = .next t) : Effect s t := by
  obtain ⟨v, -, h⟩ := orFault_next h
  exact next_effect h (wr8_effect dst v s)

theorem moveImm_effect {dst : Operand} {v : Byte} (h : moveImm dst v s = .next t) : Effect s t :=
  next_effect h (wr8_effect dst v s)

theorem loadA_effect {addr : Word} (h : loadA addr s = .next t) : Effect s t := by
  obtain ⟨v, -, h⟩ := orFault_next h
  exact next_effect h (Effect.of_eqs rfl rfl rfl rfl rfl rfl rfl)

theorem storeA_effect {addr : Word} (h : storeA addr s = .next t) : Effect s t :=
  next_effect h (writeByte_effect addr _ s)

theorem loadPairImm_effect {p : PairSp} {v : Word} (h : loadPairImm p v s = .next t) : Effect s t := by
  refine next_effect h (Effect.of_eqs ?_ ?_ ?_ ?_ ?_ ?_ ?_) <;> simp

theorem loadHl_effect {addr : Word} (h : loadHl addr s = .next t) : Effect s t := by
  obtain ⟨v, -, h⟩ := orFault_next h
  exact next_effect h (Effect.of_eqs rfl rfl rfl rfl rfl rfl rfl)

theorem storeHl_effect {addr : Word} (h : storeHl addr s = .next t) : Effect s t :=
  next_effect h (writeWord_effect addr _ s)

theorem exchangeDeHl_effect (h : exchangeDeHl s = .next t) : Effect s t :=
  next_effect h (Effect.of_eqs rfl rfl rfl rfl rfl rfl rfl)

theorem exchangeStackHl_effect (h : exchangeStackHl s = .next t) : Effect s t := by
  obtain ⟨v, -, h⟩ := orFault_next h
  exact next_effect h ((writeWord_effect s.sp s.hl s).then_eqs rfl rfl rfl rfl rfl rfl rfl)

theorem applyToAImm_effect {op : AluFun} {v : Byte} (h : applyToAImm op v s = .next t) : Effect s t :=
  next_effect h (Effect.of_eqs rfl rfl rfl rfl rfl rfl rfl)

theorem applyToA_effect {op : AluFun} {o : Operand} (h : applyToA op o s = .next t) : Effect s t := by
  obtain ⟨v, -, h⟩ := orFault_next h
  exact applyToAImm_effect h

theorem addToHl_effect {p : PairSp} (h : addToHl p s = .next t) : Effect s t :=
  next_effect h (Effect.of_eqs rfl rfl rfl rfl rfl rfl rfl)

theorem incrementByte_effect {o : Operand} (h : incrementByte o s = .next t) : Effect s t := by
  obtain ⟨v, -, h⟩ := orFault_next h
  exact next_effect h ((wr8_effect o _ s).then_eqs rfl rfl rfl rfl rfl rfl rfl)

theorem decrementByte_effect {o : Operand} (h : decrementByte o s = .next t) : Effect s t := by
  obtain ⟨v, -, h⟩ := orFault_next h
  exact next_effect h ((wr8_effect o _ s).then_eqs rfl rfl rfl rfl rfl rfl rfl)

theorem incrementPair_effect {p : PairSp} (h : incrementPair p s = .next t) : Effect s t := by
  refine next_effect h (Effect.of_eqs ?_ ?_ ?_ ?_ ?_ ?_ ?_) <;> simp

theorem decrementPair_effect {p : PairSp} (h : decrementPair p s = .next t) : Effect s t := by
  refine next_effect h (Effect.of_eqs ?_ ?_ ?_ ?_ ?_ ?_ ?_) <;> simp

theorem decimalAdjust_effect (h : decimalAdjust s = .next t) : Effect s t :=
  next_effect h (Effect.of_eqs rfl rfl rfl rfl rfl rfl rfl)

theorem complementA_effect (h : complementA s = .next t) : Effect s t :=
  next_effect h (Effect.of_eqs rfl rfl rfl rfl rfl rfl rfl)

theorem setCarry_effect {b : Bool} (h : setCarry b s = .next t) : Effect s t :=
  next_effect h (Effect.of_eqs rfl rfl rfl rfl rfl rfl rfl)

theorem rotateLeft_effect {b : Bool} (h : rotateLeft b s = .next t) : Effect s t :=
  next_effect h (Effect.of_eqs rfl rfl rfl rfl rfl rfl rfl)

theorem rotateRight_effect {b : Bool} (h : rotateRight b s = .next t) : Effect s t :=
  next_effect h (Effect.of_eqs rfl rfl rfl rfl rfl rfl rfl)

theorem jump_effect {target : Word} (h : jump target s = .next t) : Effect s t :=
  next_effect h (Effect.of_eqs rfl rfl rfl rfl rfl rfl rfl)

theorem jumpIf_effect {cond : Cond} {target : Word} (h : jumpIf cond target s = .next t) : Effect s t := by
  refine next_effect h ?_
  split
  · exact Effect.of_eqs rfl rfl rfl rfl rfl rfl rfl
  · exact Effect.refl s

theorem call_effect {target : Word} (h : call target s = .next t) : Effect s t :=
  next_effect h (callTo_effect target s)

theorem callIf_effect {cond : Cond} {target : Word} (h : callIf cond target s = .next t) : Effect s t := by
  refine next_effect h ?_
  split
  · exact (callTo_effect target s).then_eqs rfl rfl rfl rfl rfl rfl rfl
  · exact Effect.refl s

theorem returnToCaller_effect (h : returnToCaller s = .next t) : Effect s t := by
  obtain ⟨v, -, rfl⟩ := returnToCaller_next h
  exact Effect.of_eqs rfl rfl rfl rfl rfl rfl rfl

theorem returnIf_effect {cond : Cond} (h : returnIf cond s = .next t) : Effect s t := by
  unfold returnIf at h
  split at h
  · obtain ⟨v, -, rfl⟩ := returnToCaller_next h
    exact Effect.of_eqs rfl rfl rfl rfl rfl rfl rfl
  · exact next_effect h (Effect.refl s)

theorem restart_effect {n : Fin 8} (h : restart n s = .next t) : Effect s t :=
  next_effect h (callTo_effect _ s)

theorem pushPair_effect {p : RegPair} (h : pushPair p s = .next t) : Effect s t :=
  next_effect h (push16_effect _ s)

theorem popPair_effect {p : RegPair} (h : popPair p s = .next t) : Effect s t := by
  obtain ⟨r, hr, h⟩ := orFault_next h
  refine next_effect h ?_
  rw [(pop16_ok hr).2]
  exact Effect.of_eqs rfl rfl rfl rfl rfl rfl rfl

theorem pushFlagsWord_effect (h : pushFlagsWord s = .next t) : Effect s t :=
  next_effect h (push16_effect _ s)

theorem popFlagsWord_effect (h : popFlagsWord s = .next t) : Effect s t := by
  obtain ⟨r, hr, h⟩ := orFault_next h
  refine next_effect h ?_
  rw [(pop16_ok hr).2]
  exact Effect.of_eqs rfl rfl rfl rfl rfl rfl rfl

theorem inputToA_effect {p : Byte} (h : inputToA p s = .next t) : Effect s t := by
  obtain ⟨v, -, h⟩ := orFault_next h
  exact next_effect h (Effect.of_eqs rfl rfl rfl rfl rfl rfl rfl)

/-- What a port write changes: the offset, the shift register, or one entry of the bank other than 2 and 4. -/
theorem writePort_ok {p v : Byte} (h : writePort p v s = .ok t) :
    (p = 2 ∧ t = s.setShiftOfs (v.setWidth 3)) ∨
      (p = 4 ∧ t = s.setShiftReg ((s.shiftReg >>> 8) ||| (v.setWidth 16 <<< 8))) ∨
      (p ≠ 2 ∧ p ≠ 4 ∧ ∃ hp : p.toNat ≤ 6, t = s.setOutPort ⟨p.toNat, by omega⟩ v) := by
  unfold writePort at h
  split at h
  · exact Or.inl ⟨‹_›, by simpa using h.symm⟩
  · split at h
    · exact Or.inr (Or.inl ⟨‹_›, by simpa using h.symm⟩)
    · split at h
      · exact Or.inr (Or.inr ⟨‹_›, ‹_›, ‹_›, by simpa using h.symm⟩)
      · exact absurd h (by simp)

theorem outputFromA_effect {p : Byte} (h : outputFromA p s = .next t) : Effect s t := by
  obtain ⟨u, hu, h⟩ := orFault_next h
  refine next_effect h ?_
  rcases writePort_ok hu with ⟨-, rfl⟩ | ⟨-, rfl⟩ | ⟨-, -, -, rfl⟩ <;>
    exact Effect.of_eqs rfl rfl rfl rfl rfl rfl rfl

theorem noOperation_effect (h : noOperation s = .next t) : Effect s t := next_effect h (Effect.refl s)

theorem reportUnknown_effect {op : Byte} (h : reportUnknown op s = .next t) : Effect s t :=
  next_effect h ⟨⟨[], rfl⟩, rfl, rfl, rfl, rfl, List.prefix_append _ _, id⟩

/-! ### The law of `exec` -/

/-- Every instruction keeps within the bounds of `Effect`. -/
theorem exec_effect : ∀ i : Instr, exec i s = .next t → Effect s t
  | .lxiB _, h => loadPairImm_effect h
  | .lxiD _, h => loadPairImm_effect h
  | .lxiH _, h => loadPairImm_effect h
  | .shld _, h => storeHl_effect h
  | .lhld _, h => loadHl_effect h
  | .lxiSp _, h => loadPairImm_effect h
  | .sta _, h => storeA_effect h
  | .lda _, h => loadA_effect h
  | .jnz _, h => jumpIf_effect h
  | .jmp _, h => jump_effect h
  | .cnz _, h => callIf_effect h
  | .jz _, h => jumpIf_effect h
  | .cz _, h => callIf_effect h
  | .call _, h => call_effect h
  | .jnc _, h => jumpIf_effect h
  | .cnc _, h => callIf_effect h
  | .jc _, h => jumpIf_effect h
  | .cc _, h => callIf_effect h
  | .jpo _, h => jumpIf_effect h
  | .cpo _, h => callIf_effect h
  | .jpe _, h => jumpIf_effect h
  | .cpe _, h => callIf_effect h
  | .jp _, h => jumpIf_effect h
  | .cp _, h => callIf_effect h
  | .jm _, h => jumpIf_effect h
  | .cm _, h => callIf_effect h
  | .mviB _, h => moveImm_effect h
  | .mviC _, h => moveImm_effect h
  | .mviD _, h => moveImm_effect h
  | .mviE _, h => moveImm_effect h
  | .mviH _, h => moveImm_effect h
  | .mviL _, h => moveImm_effect h
  | .mviM _, h => moveImm_effect h
  | .mviA _, h => moveImm_effect h
  | .adi _, h => applyToAImm_effect h
  | .aci _, h => applyToAImm_effect h
  | .out _, h => outputFromA_effect h
  | .sui _, h => applyToAImm_effect h
  | .inp _, h => inputToA_effect h
  | .sbi _, h => applyToAImm_effect h
  | .ani _, h => applyToAImm_effect h
  | .xri _, h => applyToAImm_effect h
  | .ori _, h => applyToAImm_effect h
  | .cpi _, h => applyToAImm_effect h
  | .nop, h => noOperation_effect h
  | .staxB, h => storeA_effect h
  | .inxB, h => incrementPair_effect h
  | .inrB, h => incrementByte_effect (o := .reg .b) h
  | .dcrB, h => decrementByte_effect (o := .reg .b) h
  | .rlc, h => rotateLeft_effect h
  | .nop08, h => noOperation_effect h
  | .dadB, h => addToHl_effect h
  | .ldaxB, h => loadA_effect h
  | .dcxB, h => decrementPair_effect h
  | .inrC, h => incrementByte_effect (o := .reg .c) h
  | .dcrC, h => decrementByte_effect (o := .reg .c) h
  | .rrc, h => rotateRight_effect h
  | .nop10, h => noOperation_effect h
  | .staxD, h => storeA_effect h
  | .inxD, h => incrementPair_effect h
  | .inrD, h => incrementByte_effect (o := .reg .d) h
  | .dcrD, h => decrementByte_effect (o := .reg .d) h
  | .ral, h => rotateLeft_effect h
  | .nop18, h => noOperation_effect h
  | .dadD, h => addToHl_effect h
  | .ldaxD, h => loadA_effect h
  | .dcxD, h => decrementPair_effect h
  | .inrE, h => incrementByte_effect (o := .reg .e) h
  | .dcrE, h => decrementByte_effect (o := .reg .e) h
  | .rar, h => rotateRight_effect h
  | .nop20, h => noOperation_effect h
  | .inxH, h => incrementPair_effect h
  | .inrH, h => incrementByte_effect (o := .reg .h) h
  | .dcrH, h => decrementByte_effect (o := .reg .h) h
  | .daa, h => decimalAdjust_effect h
  | .nop28, h => noOperation_effect h
  | .dadH, h => addToHl_effect h
  | .dcxH, h => decrementPair_effect h
  | .inrL, h => incrementByte_effect (o := .reg .l) h
  | .dcrL, h => decrementByte_effect (o := .reg .l) h
  | .cma, h => complementA_effect h
  | .nop30, h => noOperation_effect h
  | .inxSp, h => incrementPair_effect h
  | .inrM, h => incrementByte_effect (o := .m) h
  | .dcrM, h => decrementByte_effect (o := .m) h
  | .stc, h => setCarry_effect h
  | .nop38, h => noOperation_effect h
  | .dadSp, h => addToHl_effect h
  | .dcxSp, h => decrementPair_effect h
  | .inrA, h => incrementByte_effect (o := .reg .a) h
  | .dcrA, h => decrementByte_effect (o := .reg .a) h
  | .cmc, h => setCarry_effect h
  | .movBB, h => moveByte_effect (dst := .reg .b) (src := .reg .b) h
  | .movBC, h => moveByte_effect (dst := .reg .b) (src := .reg .c) h
  | .movBD, h => moveByte_effect (dst := .reg .b) (src := .reg .d) h
  | .movBE, h => moveByte_effect (dst := .reg .b) (src := .reg .e) h
  | .movBH, h => moveByte_effect (dst := .reg .b) (src := .reg .h) h
  | .movBL, h => moveByte_effect (dst := .reg .b) (src := .reg .l) h
  | .movBM, h => moveByte_effect (dst := .reg .b) (src := .m) h
  | .movBA, h => moveByte_effect (dst := .reg .b) (src := .reg .a) h
  | .movCB, h => moveByte_effect (dst := .reg .c) (src := .reg .b) h
  | .movCC, h => moveByte_effect (dst := .reg .c) (src := .reg .c) h
  | .movCD, h => moveByte_effect (dst := .reg .c) (src := .reg .d) h
  | .movCE, h => moveByte_effect (dst := .reg .c) (src := .reg .e) h
  | .movCH, h => moveByte_effect (dst := .reg .c) (src := .reg .h) h
  | .movCL, h => moveByte_effect (dst := .reg .c) (src := .reg .l) h
  | .movCM, h => moveByte_effect (dst := .reg .c) (src := .m) h
  | .movCA, h => moveByte_effect (dst := .reg .c) (src := .reg .a) h
  | .movDB, h => moveByte_effect (dst := .reg .d) (src := .reg .b) h
  | .movDC, h => moveByte_effect (dst := .reg .d) (src := .reg .c) h
  | .movDD, h => moveByte_effect (dst := .reg .d) (src := .reg .d) h
  | .movDE, h => moveByte_effect (dst := .reg .d) (src := .reg .e) h
  | .movDH, h => moveByte_effect (dst := .reg .d) (src := .reg .h) h
  | .movDL, h => moveByte_effect (dst := .reg .d) (src := .reg .l) h
  | .movDM, h => moveByte_effect (dst := .reg .d) (src := .m) h
  | .movDA, h => moveByte_effect (dst := .reg .d) (src := .reg .a) h
  | .movEB, h => moveByte_effect (dst := .reg .e) (src := .reg .b) h
  | .movEC, h => moveByte_effect (dst := .reg .e) (src := .reg .c) h
  | .movED, h => moveByte_effect (dst := .reg .e) (src := .reg .d) h
  | .movEE, h => moveByte_effect (dst := .reg .e) (src := .reg .e) h
  | .movEH, h => moveByte_effect (dst := .reg .e) (src := .reg .h) h
  | .movEL, h => moveByte_effect (dst := .reg .e) (src := .reg .l) h
  | .movEM, h => moveByte_effect (dst := .reg .e) (src := .m) h
  | .movEA, h => moveByte_effect (dst := .reg .e) (src := .reg .a) h
  | .movHB, h => moveByte_effect (dst := .reg .h) (src := .reg .b) h
  | .movHC, h => moveByte_effect (dst := .reg .h) (src := .reg .c) h
  | .movHD, h => moveByte_effect (dst := .reg .h) (src := .reg .d) h
  | .movHE, h => moveByte_effect (dst := .reg .h) (src := .reg .e) h
  | .movHH, h => moveByte_effect (dst := .reg .h) (src := .reg .h) h
  | .movHL, h => moveByte_effect (dst := .reg .h) (src := .reg .l) h
  | .movHM, h => moveByte_effect (dst := .reg .h) (src := .m) h
  | .movHA, h => moveByte_effect (dst := .reg .h) (src := .reg .a) h
  | .movLB, h => moveByte_effect (dst := .reg .l) (src := .reg .b) h
  | .movLC, h => moveByte_effect (dst := .reg .l) (src := .reg .c) h
  | .movLD, h => moveByte_effect (dst := .reg .l) (src := .reg .d) h
  | .movLE, h => moveByte_effect (dst := .reg .l) (src := .reg .e) h
  | .movLH, h => moveByte_effect (dst := .reg .l) (src := .reg .h) h
  | .movLL, h => moveByte_effect (dst := .reg .l) (src := .reg .l) h
  | .movLM, h => moveByte_effect (dst := .reg .l) (src := .m) h
  | .movLA, h => moveByte_effect (dst := .reg .l) (src := .reg .a) h
  | .movMB, h => moveByte_effect (dst := .m) (src := .reg .b) h
  | .movMC, h => moveByte_effect (dst := .m) (src := .reg .c) h
  | .movMD, h => moveByte_effect (dst := .m) (src := .reg .d) h
  | .movME, h => moveByte_effect (dst := .m) (src := .reg .e) h
  | .movMH, h => moveByte_effect (dst := .m) (src := .reg .h) h
  | .movML, h => moveByte_effect (dst := .m) (src := .reg .l) h
  | .hlt, h => next_effect h ⟨⟨[], rfl⟩, rfl, rfl, rfl, rfl, List.prefix_rfl, fun _ => rfl⟩
  | .movMA, h => moveByte_effect (dst := .m) (src := .reg .a) h
  | .movAB, h => moveByte_effect (dst := .reg .a) (src := .reg .b) h
  | .movAC, h => moveByte_effect (dst := .reg .a) (src := .reg .c) h
  | .movAD, h => moveByte_effect (dst := .reg .a) (src := .reg .d) h
  | .movAE, h => moveByte_effect (dst := .reg .a) (src := .reg .e) h
  | .movAH, h => moveByte_effect (dst := .reg .a) (src := .reg .h) h
  | .movAL, h => moveByte_effect (dst := .reg .a) (src := .reg .l) h
  | .movAM, h => moveByte_effect (dst := .reg .a) (src := .m) h
  | .movAA, h => moveByte_effect (dst := .reg .a) (src := .reg .a) h
  | .addB, h => applyToA_effect (op := aluAdd) (o := .reg .b) h
  | .addC, h => applyToA_effect (op := aluAdd) (o := .reg .c) h
  | .addD, h => applyToA_effect (op := aluAdd) (o := .reg .d) h
  | .addE, h => applyToA_effect (op := aluAdd) (o := .reg .e) h
  | .addH, h => applyToA_effect (op := aluAdd) (o := .reg .h) h
  | .addL, h => applyToA_effect (op := aluAdd) (o := .reg .l) h
  | .addM, h => applyToA_effect (op := aluAdd) (o := .m) h
  | .addA, h => applyToA_effect (op := aluAdd) (o := .reg .a) h
  | .adcB, h => applyToA_effect (op := aluAdc) (o := .reg .b) h
  | .adcC, h => applyToA_effect (op := aluAdc) (o := .reg .c) h
  | .adcD, h => applyToA_effect (op := aluAdc) (o := .reg .d) h
  | .adcE, h => applyToA_effect (op := aluAdc) (o := .reg .e) h
  | .adcH, h => applyToA_effect (op := aluAdc) (o := .reg .h) h
  | .adcL, h => applyToA_effect (op := aluAdc) (o := .reg .l) h
  | .adcM, h => applyToA_effect (op := aluAdc) (o := .m) h
  | .adcA, h => applyToA_effect (op := aluAdc) (o := .reg .a) h
  | .subB, h => applyToA_effect (op := aluSub) (o := .reg .b) h
  | .subC, h => applyToA_effect (op := aluSub) (o := .reg .c) h
  | .subD, h => applyToA_effect (op := aluSub) (o := .reg .d) h
  | .subE, h => applyToA_effect (op := aluSub) (o := .reg .e) h
  | .subH, h => applyToA_effect (op := aluSub) (o := .reg .h) h
  | .subL, h => applyToA_effect (op := aluSub) (o := .reg .l) h
  | .subM, h => applyToA_effect (op := aluSub) (o := .m) h
  | .subA, h => applyToA_effect (op := aluSub) (o := .reg .a) h
  | .sbbB, h => applyToA_effect (op := aluSbb) (o := .reg .b) h
  | .sbbC, h => applyToA_effect (op := aluSbb) (o := .reg .c) h
  | .sbbD, h => applyToA_effect (op := aluSbb) (o := .reg .d) h
  | .sbbE, h => applyToA_effect (op := aluSbb) (o := .reg .e) h
  | .sbbH, h => applyToA_effect (op := aluSbb) (o := .reg .h) h
  | .sbbL, h => applyToA_effect (op := aluSbb) (o := .reg .l) h
  | .sbbM, h => applyToA_effect (op := aluSbb) (o := .m) h
  | .sbbA, h => applyToA_effect (op := aluSbb) (o := .reg .a) h
  | .anaB, h => applyToA_effect (op := aluAna) (o := .reg .b) h
  | .anaC, h => applyToA_effect (op := aluAna) (o := .reg .c) h
  | .anaD, h => applyToA_effect (op := aluAna) (o := .reg .d) h
  | .anaE, h => applyToA_effect (op := aluAna) (o := .reg .e) h
  | .anaH, h => applyToA_effect (op := aluAna) (o := .reg .h) h
  | .anaL, h => applyToA_effect (op := aluAna) (o := .reg .l) h
  | .anaM, h => applyToA_effect (op := aluAna) (o := .m) h
  | .anaA, h => applyToA_effect (op := aluAna) (o := .reg .a) h
  | .xraB, h => applyToA_effect (op := aluXra) (o := .reg .b) h
  | .xraC, h => applyToA_effect (op := aluXra) (o := .reg .c) h
  | .xraD, h => applyToA_effect (op := aluXra) (o := .reg .d) h
  | .xraE, h => applyToA_effect (op := aluXra) (o := .reg .e) h
  | .xraH, h => applyToA_effect (op := aluXra) (o := .reg .h) h
  | .xraL, h => applyToA_effect (op := aluXra) (o := .reg .l) h
  | .xraM, h => applyToA_effect (op := aluXra) (o := .m) h
  | .xraA, h => applyToA_effect (op := aluXra) (o := .reg .a) h
  | .oraB, h => applyToA_effect (op := aluOra) (o := .reg .b) h
  | .oraC, h => applyToA_effect (op := aluOra) (o := .reg .c) h
  | .oraD, h => applyToA_effect (op := aluOra) (o := .reg .d) h
  | .oraE, h => applyToA_effect (op := aluOra) (o := .reg .e) h
  | .oraH, h => applyToA_effect (op := aluOra) (o := .reg .h) h
  | .oraL, h => applyToA_effect (op := aluOra) (o := .reg .l) h
  | .oraM, h => applyToA_effect (op := aluOra) (o := .m) h
  | .oraA, h => applyToA_effect (op := aluOra) (o := .reg .a) h
  | .cmpB, h => applyToA_effect (op := aluCmp) (o := .reg .b) h
  | .cmpC, h => applyToA_effect (op := aluCmp) (o := .reg .c) h
  | .cmpD, h => applyToA_effect (op := aluCmp) (o := .reg .d) h
  | .cmpE, h => applyToA_effect (op := aluCmp) (o := .reg .e) h
  | .cmpH, h => applyToA_effect (op := aluCmp) (o := .reg .h) h
  | .cmpL, h => applyToA_effect (op := aluCmp) (o := .reg .l) h
  | .cmpM, h => applyToA_effect (op := aluCmp) (o := .m) h
  | .cmpA, h => applyToA_effect (op := aluCmp) (o := .reg .a) h
  | .rnz, h => returnIf_effect h
  | .popB, h => popPair_effect h
  | .pushB, h => pushPair_effect h
  | .rst0, h => restart_effect h
  | .rz, h => returnIf_effect h
  | .ret, h => returnToCaller_effect h
  | .undefCB, h => reportUnknown_effect h
  | .rst1, h => restart_effect h
  | .rnc, h => returnIf_effect h
  | .popD, h => popPair_effect h
  | .pushD, h => pushPair_effect h
  | .rst2, h => restart_effect h
  | .rc, h => returnIf_effect h
  | .retD9, h => returnToCaller_effect h
  | .undefDD, h => reportUnknown_effect h
  | .rst3, h => restart_effect h
  | .rpo, h => returnIf_effect h
  | .popH, h => popPair_effect h
  | .xthl, h => exchangeStackHl_effect h
  | .pushH, h => pushPair_effect h
  | .rst4, h => restart_effect h
  | .rpe, h => returnIf_effect h
  | .pchl, h => jump_effect h
  | .xchg, h => exchangeDeHl_effect h
  | .undefED, h => reportUnknown_effect h
  | .rst5, h => restart_effect h
  | .rp, h => returnIf_effect h
  | .popPsw, h => popFlagsWord_effect h
  | .di, h => next_effect h (Effect.of_eqs rfl rfl rfl rfl rfl rfl rfl)
  | .pushPsw, h => pushFlagsWord_effect h
  | .rst6, h => restart_effect h
  | .rm, h => returnIf_effect h
  | .sphl, h => next_effect h (Effect.of_eqs rfl rfl rfl rfl rfl rfl rfl)
  | .ei, h => next_effect h (Effect.of_eqs rfl rfl rfl rfl rfl rfl rfl)
  | .undefFD, h => reportUnknown_effect h
  | .rst7, h => restart_effect h

end Sys2Proof.Machine
end

