-- ==== Sys2Proof/Laws/Clock.lean ====
section
/-! SUPPORT. What one step can do: nothing on a halted machine, the exit trap, or the console call (where it is due), the
fetch, and the meaning of one instruction. -/

namespace Sys2Proof.Machine

variable {s t : State}

/-! ### The opcode map and the encoder -/

/-- What a row of the opcode map says of the encoding of the instructions it makes. -/
def RowEncodes (op : Byte) : Shape → Prop
  | .f1 i => encode i = [op]
  | .f2 make => ∀ v, encode (make v) = [op, v]
  | .f3 make => ∀ v, encode (make v) = [op, lowByte v, highByte v]

theorem rowEncodes_nat : ∀ n < 256, RowEncodes (BitVec.ofNat 8 n) (opcodeMap (BitVec.ofNat 8 n)) := by
  intro n hn
  interval_cases n <;> first | exact rfl | exact fun _ => rfl

/-- Every row of the opcode map encodes to its own opcode byte. -/
theorem rowEncodes (op : Byte) : RowEncodes op (opcodeMap op) := by
  have := rowEncodes_nat op.toNat op.isLt
  rwa [BitVec.ofNat_toNat, BitVec.setWidth_eq] at this

/-! ### Fetch and dispatch -/

theorem afterFetch_eq (i : Instr) (s : State) {n : Nat} {op : Byte} (hn : i.length = n) (ho : opcode i = op) :
    afterFetch i s =
      (((s.setPc (s.pc + BitVec.ofNat 16 n)).setInstructionCount (s.instructionCount + 1)).addClock (s.cost op)) := by
  subst hn ho
  rfl

/-- A dispatch that ends in a next state has read the whole instruction and run its meaning. -/
theorem dispatch_next {op : Byte} (h : dispatch op s = .next t) :
    ∃ i : Instr, opcode i = op ∧ exec i (s.setPc (s.pc + BitVec.ofNat 16 (i.length - 1))) = .next t := by
  have hrow := rowEncodes op
  unfold dispatch at h
  cases hm : opcodeMap op with
  | f1 i =>
    simp only [hm] at h hrow
    refine ⟨i, by simp [opcode, show encode i = [op] from hrow], ?_⟩
    simpa [Instr.length, show encode i = [op] from hrow] using h
  | f2 make =>
    simp only [hm] at h hrow
    obtain ⟨r, hr, h⟩ := orFault_next h
    have he := (show ∀ v, encode (make v) = [op, v] from hrow) r.1
    refine ⟨make r.1, by simp [opcode, he], ?_⟩
    rw [(fetch8_ok hr).2] at h
    simpa [Instr.length, he] using h
  | f3 make =>
    simp only [hm] at h hrow
    obtain ⟨r, hr, h⟩ := orFault_next h
    have he := (show ∀ v, encode (make v) = [op, lowByte v, highByte v] from hrow) r.1
    refine ⟨make r.1, by simp [opcode, he], ?_⟩
    obtain ⟨lo, hi, -, -, -, hs⟩ := fetch16_ok hr
    rw [hs, show s.pc + 1 + 1 = s.pc + 2#16 by rw [BitVec.add_assoc]; rfl] at h
    simpa [Instr.length, he] using h

/-- A fetch that ends in a next state has run the meaning of an instruction after its fetch. -/
theorem fetchExecute_next (h : fetchExecute s = .next t) :
    ∃ i : Instr, readByte s s.pc = .ok (opcode i) ∧ exec i (afterFetch i s) = .next t := by
  obtain ⟨r, hr, h⟩ := orFault_next h
  obtain ⟨hop, hs⟩ := fetch8_ok hr
  obtain ⟨i, hi, h⟩ := dispatch_next h
  refine ⟨i, hi ▸ hop, ?_⟩
  rw [← h]
  congr 1
  have hlen : 1 ≤ i.length := by cases i <;> exact Nat.le_add_left 1 _
  rw [afterFetch_eq i s rfl hi, hs]
  have hpc : s.pc + 1 + BitVec.ofNat 16 (i.length - 1) = s.pc + BitVec.ofNat 16 i.length := by
    rw [BitVec.add_assoc, show (1 : Word) = BitVec.ofNat 16 1 from rfl, ← BitVec.ofNat_add,
      show 1 + (i.length - 1) = i.length by omega]
  simp only [countInstruction, State.addClock_pc, State.setInstructionCount_pc, State.setPc_pc, hpc]
  rfl

/-! ### The console call -/

/-- The console call only appends to the console output stream. -/
theorem consoleCall_next (h : consoleCall s = .next t) : ∃ bs, t = s.emit bs := by
  unfold consoleCall at h
  split at h
  · simp only [Host.Outcome.next.injEq] at h
    exact ⟨_, h.symm⟩
  · split at h
    · split at h
      · simp only [Host.Outcome.next.injEq] at h
        exact ⟨_, h.symm⟩
      · exact absurd h (by simp)
      · exact absurd h (by simp)
    · simp only [Host.Outcome.next.injEq] at h
      exact ⟨[], by rw [← h]; simp [State.emit]⟩

theorem beforeFetch_next (h : beforeFetch s = .next t) : ∃ bs, (atCallTrap s = false → bs = []) ∧ t = s.emit bs := by
  unfold beforeFetch at h
  split at h
  · obtain ⟨bs, hb⟩ := consoleCall_next h
    exact ⟨bs, fun hc => absurd hc (by simp_all), hb⟩
  · simp only [Host.Outcome.next.injEq] at h
    exact ⟨[], fun _ => rfl, by rw [← h]; simp [State.emit]⟩

/-! ### The step -/

/-- A step of a machine in arcade mode that is not halted is one fetch and one execution: arcade mode has no trap. -/
theorem step_arcade (hh : s.halted = false) (hm : s.config.mode = .arcade) : step s = fetchExecute s := by
  unfold step clock beforeFetch
  simp [hh, atExitTrap, atCallTrap, hm]

/-- The three things a step that ends in a next state can have been (`60_exceptions.md` R290). -/
theorem step_cases (h : step s = .next t) :
    (s.halted = true ∧ t = s) ∨
      (s.halted = false ∧ atExitTrap s = true ∧ t = s.setHalted true) ∨
      (s.halted = false ∧ atExitTrap s = false ∧ ∃ (bs : List Byte) (i : Instr),
        (atCallTrap s = false → bs = []) ∧ readByte s s.pc = .ok (opcode i) ∧
          exec i (afterFetch i (s.emit bs)) = .next t) := by
  unfold step clock at h
  by_cases hh : s.halted = true
  · rw [if_pos hh] at h
    simp only [Host.Outcome.next.injEq] at h
    exact Or.inl ⟨hh, h.symm⟩
  · rw [if_neg hh] at h
    by_cases hx : atExitTrap s = true
    · rw [if_pos hx] at h
      simp only [Host.Outcome.next.injEq] at h
      exact Or.inr (Or.inl ⟨by simpa using hh, hx, h.symm⟩)
    · rw [if_neg hx] at h
      refine Or.inr (Or.inr ⟨by simpa using hh, by simpa using hx, ?_⟩)
      cases hb : beforeFetch s with
      | next u =>
        rw [hb] at h
        obtain ⟨bs, hbs, rfl⟩ := beforeFetch_next hb
        obtain ⟨i, hop, he⟩ := fetchExecute_next h
        exact ⟨bs, i, hbs, hop, he⟩
      | fault f =>
        rw [hb] at h
        exact absurd h (by simp)
      | refused r =>
        rw [hb] at h
        exact absurd h (by simp)

/-- What the fetch leaves alone. -/
theorem afterFetch_store (i : Instr) (s : State) : (afterFetch i s).store = s.store := rfl

theorem afterFetch_config (i : Instr) (s : State) : (afterFetch i s).config = s.config := rfl

end Sys2Proof.Machine
end

