-- ==== Sys2Proof/Laws/Families.lean ====
section
/-! SUPPORT. What the dispatcher runs for each family of instructions: the shared operation behind every form of it. -/

namespace Sys2Proof.Machine

/-! ### Families -/

/-- The families of instructions: each form that the statements and the laws speak of. -/
inductive Family : Instr → Prop where
  | movRR (dst src : Reg8) : Family (.movRR dst src)
  | movRM (dst : Reg8) : Family (.movRM dst)
  | movMR (src : Reg8) : Family (.movMR src)
  | mviR (dst : Reg8) (v : Byte) : Family (.mviR dst v)
  | mviM (v : Byte) : Family (.mviM v)
  | lxi (p : PairSp) (v : Word) : Family (.lxi p v)
  | ldax (p : BcDe) : Family (.ldax p)
  | lda (a : Word) : Family (.lda a)
  | stax (p : BcDe) : Family (.stax p)
  | sta (a : Word) : Family (.sta a)
  | lhld (a : Word) : Family (.lhld a)
  | shld (a : Word) : Family (.shld a)
  | xchg : Family .xchg
  | xthl : Family .xthl
  | alu (op : AluOp) (o : Operand) : Family (.alu op o)
  | aluImm (op : AluOp) (v : Byte) : Family (.aluImm op v)
  | inr (o : Operand) : Family (.inr o)
  | dcr (o : Operand) : Family (.dcr o)
  | inx (p : PairSp) : Family (.inx p)
  | dcx (p : PairSp) : Family (.dcx p)
  | dad (p : PairSp) : Family (.dad p)
  | daa : Family .daa
  | cma : Family .cma
  | stc : Family .stc
  | cmc : Family .cmc
  | rlc : Family .rlc
  | rrc : Family .rrc
  | ral : Family .ral
  | rar : Family .rar
  | jmp (a : Word) : Family (.jmp a)
  | jcc (cc : Cond) (a : Word) : Family (.jcc cc a)
  | call (a : Word) : Family (.call a)
  | ccc (cc : Cond) (a : Word) : Family (.ccc cc a)
  | ret : Family .ret
  | retD9 : Family .retD9
  | rcc (cc : Cond) : Family (.rcc cc)
  | rst (n : Fin 8) : Family (.rst n)
  | pchl : Family .pchl
  | push (p : RegPair) : Family (.push p)
  | pushPsw : Family .pushPsw
  | pop (p : RegPair) : Family (.pop p)
  | popPsw : Family .popPsw
  | sphl : Family .sphl
  | ei : Family .ei
  | di : Family .di
  | inp (p : Byte) : Family (.inp p)
  | out (p : Byte) : Family (.out p)
  | hlt : Family .hlt
  | nop (i : Instr) (h : i ∈ Instr.nops) : Family i
  | undefined (i : Instr) (op : Byte) (h : (i, op) ∈ Instr.undefineds) : Family i

/-- Every instruction belongs to a family, so a proof about every instruction is one about every family. -/
theorem family : (i : Instr) → Family i
  | .lxiB v => .lxi .bc v
  | .lxiD v => .lxi .de v
  | .lxiH v => .lxi .hl v
  | .shld v => .shld v
  | .lhld v => .lhld v
  | .lxiSp v => .lxi .sp v
  | .sta v => .sta v
  | .lda v => .lda v
  | .jnz v => .jcc .nz v
  | .jmp v => .jmp v
  | .cnz v => .ccc .nz v
  | .jz v => .jcc .z v
  | .cz v => .ccc .z v
  | .call v => .call v
  | .jnc v => .jcc .nc v
  | .cnc v => .ccc .nc v
  | .jc v => .jcc .c v
  | .cc v => .ccc .c v
  | .jpo v => .jcc .po v
  | .cpo v => .ccc .po v
  | .jpe v => .jcc .pe v
  | .cpe v => .ccc .pe v
  | .jp v => .jcc .p v
  | .cp v => .ccc .p v
  | .jm v => .jcc .m v
  | .cm v => .ccc .m v
  | .mviB v => .mviR .b v
  | .mviC v => .mviR .c v
  | .mviD v => .mviR .d v
  | .mviE v => .mviR .e v
  | .mviH v => .mviR .h v
  | .mviL v => .mviR .l v
  | .mviM v => .mviM v
  | .mviA v => .mviR .a v
  | .adi v => .aluImm .add v
  | .aci v => .aluImm .adc v
  | .out v => .out v
  | .sui v => .aluImm .sub v
  | .inp v => .inp v
  | .sbi v => .aluImm .sbb v
  | .ani v => .aluImm .ana v
  | .xri v => .aluImm .xra v
  | .ori v => .aluImm .ora v
  | .cpi v => .aluImm .cmp v
  | .nop => .nop .nop (by decide)
  | .staxB => .stax .bc
  | .inxB => .inx .bc
  | .inrB => .inr (.reg .b)
  | .dcrB => .dcr (.reg .b)
  | .rlc => .rlc
  | .nop08 => .nop .nop08 (by decide)
  | .dadB => .dad .bc
  | .ldaxB => .ldax .bc
  | .dcxB => .dcx .bc
  | .inrC => .inr (.reg .c)
  | .dcrC => .dcr (.reg .c)
  | .rrc => .rrc
  | .nop10 => .nop .nop10 (by decide)
  | .staxD => .stax .de
  | .inxD => .inx .de
  | .inrD => .inr (.reg .d)
  | .dcrD => .dcr (.reg .d)
  | .ral => .ral
  | .nop18 => .nop .nop18 (by decide)
  | .dadD => .dad .de
  | .ldaxD => .ldax .de
  | .dcxD => .dcx .de
  | .inrE => .inr (.reg .e)
  | .dcrE => .dcr (.reg .e)
  | .rar => .rar
  | .nop20 => .nop .nop20 (by decide)
  | .inxH => .inx .hl
  | .inrH => .inr (.reg .h)
  | .dcrH => .dcr (.reg .h)
  | .daa => .daa
  | .nop28 => .nop .nop28 (by decide)
  | .dadH => .dad .hl
  | .dcxH => .dcx .hl
  | .inrL => .inr (.reg .l)
  | .dcrL => .dcr (.reg .l)
  | .cma => .cma
  | .nop30 => .nop .nop30 (by decide)
  | .inxSp => .inx .sp
  | .inrM => .inr .m
  | .dcrM => .dcr .m
  | .stc => .stc
  | .nop38 => .nop .nop38 (by decide)
  | .dadSp => .dad .sp
  | .dcxSp => .dcx .sp
  | .inrA => .inr (.reg .a)
  | .dcrA => .dcr (.reg .a)
  | .cmc => .cmc
  | .movBB => .movRR .b .b
  | .movBC => .movRR .b .c
  | .movBD => .movRR .b .d
  | .movBE => .movRR .b .e
  | .movBH => .movRR .b .h
  | .movBL => .movRR .b .l
  | .movBM => .movRM .b
  | .movBA => .movRR .b .a
  | .movCB => .movRR .c .b
  | .movCC => .movRR .c .c
  | .movCD => .movRR .c .d
  | .movCE => .movRR .c .e
  | .movCH => .movRR .c .h
  | .movCL => .movRR .c .l
  | .movCM => .movRM .c
  | .movCA => .movRR .c .a
  | .movDB => .movRR .d .b
  | .movDC => .movRR .d .c
  | .movDD => .movRR .d .d
  | .movDE => .movRR .d .e
  | .movDH => .movRR .d .h
  | .movDL => .movRR .d .l
  | .movDM => .movRM .d
  | .movDA => .movRR .d .a
  | .movEB => .movRR .e .b
  | .movEC => .movRR .e .c
  | .movED => .movRR .e .d
  | .movEE => .movRR .e .e
  | .movEH => .movRR .e .h
  | .movEL => .movRR .e .l
  | .movEM => .movRM .e
  | .movEA => .movRR .e .a
  | .movHB => .movRR .h .b
  | .movHC => .movRR .h .c
  | .movHD => .movRR .h .d
  | .movHE => .movRR .h .e
  | .movHH => .movRR .h .h
  | .movHL => .movRR .h .l
  | .movHM => .movRM .h
  | .movHA => .movRR .h .a
  | .movLB => .movRR .l .b
  | .movLC => .movRR .l .c
  | .movLD => .movRR .l .d
  | .movLE => .movRR .l .e
  | .movLH => .movRR .l .h
  | .movLL => .movRR .l .l
  | .movLM => .movRM .l
  | .movLA => .movRR .l .a
  | .movMB => .movMR .b
  | .movMC => .movMR .c
  | .movMD => .movMR .d
  | .movME => .movMR .e
  | .movMH => .movMR .h
  | .movML => .movMR .l
  | .hlt => .hlt
  | .movMA => .movMR .a
  | .movAB => .movRR .a .b
  | .movAC => .movRR .a .c
  | .movAD => .movRR .a .d
  | .movAE => .movRR .a .e
  | .movAH => .movRR .a .h
  | .movAL => .movRR .a .l
  | .movAM => .movRM .a
  | .movAA => .movRR .a .a
  | .addB => .alu .add (.reg .b)
  | .addC => .alu .add (.reg .c)
  | .addD => .alu .add (.reg .d)
  | .addE => .alu .add (.reg .e)
  | .addH => .alu .add (.reg .h)
  | .addL => .alu .add (.reg .l)
  | .addM => .alu .add .m
  | .addA => .alu .add (.reg .a)
  | .adcB => .alu .adc (.reg .b)
  | .adcC => .alu .adc (.reg .c)
  | .adcD => .alu .adc (.reg .d)
  | .adcE => .alu .adc (.reg .e)
  | .adcH => .alu .adc (.reg .h)
  | .adcL => .alu .adc (.reg .l)
  | .adcM => .alu .adc .m
  | .adcA => .alu .adc (.reg .a)
  | .subB => .alu .sub (.reg .b)
  | .subC => .alu .sub (.reg .c)
  | .subD => .alu .sub (.reg .d)
  | .subE => .alu .sub (.reg .e)
  | .subH => .alu .sub (.reg .h)
  | .subL => .alu .sub (.reg .l)
  | .subM => .alu .sub .m
  | .subA => .alu .sub (.reg .a)
  | .sbbB => .alu .sbb (.reg .b)
  | .sbbC => .alu .sbb (.reg .c)
  | .sbbD => .alu .sbb (.reg .d)
  | .sbbE => .alu .sbb (.reg .e)
  | .sbbH => .alu .sbb (.reg .h)
  | .sbbL => .alu .sbb (.reg .l)
  | .sbbM => .alu .sbb .m
  | .sbbA => .alu .sbb (.reg .a)
  | .anaB => .alu .ana (.reg .b)
  | .anaC => .alu .ana (.reg .c)
  | .anaD => .alu .ana (.reg .d)
  | .anaE => .alu .ana (.reg .e)
  | .anaH => .alu .ana (.reg .h)
  | .anaL => .alu .ana (.reg .l)
  | .anaM => .alu .ana .m
  | .anaA => .alu .ana (.reg .a)
  | .xraB => .alu .xra (.reg .b)
  | .xraC => .alu .xra (.reg .c)
  | .xraD => .alu .xra (.reg .d)
  | .xraE => .alu .xra (.reg .e)
  | .xraH => .alu .xra (.reg .h)
  | .xraL => .alu .xra (.reg .l)
  | .xraM => .alu .xra .m
  | .xraA => .alu .xra (.reg .a)
  | .oraB => .alu .ora (.reg .b)
  | .oraC => .alu .ora (.reg .c)
  | .oraD => .alu .ora (.reg .d)
  | .oraE => .alu .ora (.reg .e)
  | .oraH => .alu .ora (.reg .h)
  | .oraL => .alu .ora (.reg .l)
  | .oraM => .alu .ora .m
  | .oraA => .alu .ora (.reg .a)
  | .cmpB => .alu .cmp (.reg .b)
  | .cmpC => .alu .cmp (.reg .c)
  | .cmpD => .alu .cmp (.reg .d)
  | .cmpE => .alu .cmp (.reg .e)
  | .cmpH => .alu .cmp (.reg .h)
  | .cmpL => .alu .cmp (.reg .l)
  | .cmpM => .alu .cmp .m
  | .cmpA => .alu .cmp (.reg .a)
  | .rnz => .rcc .nz
  | .popB => .pop .bc
  | .pushB => .push .bc
  | .rst0 => .rst 0
  | .rz => .rcc .z
  | .ret => .ret
  | .undefCB => .undefined .undefCB 0xCB (by decide)
  | .rst1 => .rst 1
  | .rnc => .rcc .nc
  | .popD => .pop .de
  | .pushD => .push .de
  | .rst2 => .rst 2
  | .rc => .rcc .c
  | .retD9 => .retD9
  | .undefDD => .undefined .undefDD 0xDD (by decide)
  | .rst3 => .rst 3
  | .rpo => .rcc .po
  | .popH => .pop .hl
  | .xthl => .xthl
  | .pushH => .push .hl
  | .rst4 => .rst 4
  | .rpe => .rcc .pe
  | .pchl => .pchl
  | .xchg => .xchg
  | .undefED => .undefined .undefED 0xED (by decide)
  | .rst5 => .rst 5
  | .rp => .rcc .p
  | .popPsw => .popPsw
  | .di => .di
  | .pushPsw => .pushPsw
  | .rst6 => .rst 6
  | .rm => .rcc .m
  | .sphl => .sphl
  | .ei => .ei
  | .undefFD => .undefined .undefFD 0xFD (by decide)
  | .rst7 => .rst 7

/-! ### What is run for each -/

variable (s : State)

theorem exec_movRR (dst src : Reg8) : exec (.movRR dst src) s = moveByte (.reg dst) (.reg src) s := by
  cases dst <;> cases src <;> rfl

theorem exec_movRM (dst : Reg8) : exec (.movRM dst) s = moveByte (.reg dst) .m s := by cases dst <;> rfl

theorem exec_movMR (src : Reg8) : exec (.movMR src) s = moveByte .m (.reg src) s := by cases src <;> rfl

theorem exec_mviR (dst : Reg8) (v : Byte) : exec (.mviR dst v) s = moveImm (.reg dst) v s := by cases dst <;> rfl

theorem exec_lxi (p : PairSp) (v : Word) : exec (.lxi p v) s = loadPairImm p v s := by cases p <;> rfl

theorem exec_ldax (p : BcDe) : exec (.ldax p) s = loadA (s.bcDe p) s := by cases p <;> rfl

theorem exec_stax (p : BcDe) : exec (.stax p) s = storeA (s.bcDe p) s := by cases p <;> rfl

theorem exec_inx (p : PairSp) : exec (.inx p) s = incrementPair p s := by cases p <;> rfl

theorem exec_dcx (p : PairSp) : exec (.dcx p) s = decrementPair p s := by cases p <;> rfl

theorem exec_dad (p : PairSp) : exec (.dad p) s = addToHl p s := by cases p <;> rfl

theorem exec_inr (o : Operand) : exec (.inr o) s = incrementByte o s := by
  cases o with
  | reg r => cases r <;> rfl
  | m => rfl

theorem exec_dcr (o : Operand) : exec (.dcr o) s = decrementByte o s := by
  cases o with
  | reg r => cases r <;> rfl
  | m => rfl

theorem exec_jcc (cc : Cond) (a : Word) : exec (.jcc cc a) s = jumpIf cc a s := by cases cc <;> rfl

theorem exec_ccc (cc : Cond) (a : Word) : exec (.ccc cc a) s = callIf cc a s := by cases cc <;> rfl

theorem exec_rcc (cc : Cond) : exec (.rcc cc) s = returnIf cc s := by cases cc <;> rfl

theorem exec_rst (n : Fin 8) : exec (.rst n) s = restart n s := by
  match n with
  | 0 | 1 | 2 | 3 | 4 | 5 | 6 | 7 => rfl

theorem exec_push (p : RegPair) : exec (.push p) s = pushPair p s := by cases p <;> rfl

theorem exec_pop (p : RegPair) : exec (.pop p) s = popPair p s := by cases p <;> rfl

/-- The operation behind a code of the ALU group. -/
def aluFun : AluOp → AluFun
  | .add => aluAdd
  | .adc => aluAdc
  | .sub => aluSub
  | .sbb => aluSbb
  | .ana => aluAna
  | .xra => aluXra
  | .ora => aluOra
  | .cmp => aluCmp

theorem exec_alu (op : AluOp) (o : Operand) : exec (.alu op o) s = applyToA (aluFun op) o s := by
  cases o with
  | reg r => cases op <;> cases r <;> rfl
  | m => cases op <;> rfl

theorem exec_aluImm (op : AluOp) (v : Byte) : exec (.aluImm op v) s = applyToAImm (aluFun op) v s := by
  cases op <;> rfl

/-- An ALU instruction whose operand is `v`, whatever its form. -/
theorem exec_of_aluSource {op : AluOp} {i : Instr} {v : Byte} {s : State} (h : AluSource op i s v) :
    exec i s = applyToAImm (aluFun op) v s := by
  rcases h with ⟨o, rfl, ho⟩ | rfl
  · rw [exec_alu, applyToA, ho, orFault_ok]
  · exact exec_aluImm s op v

end Sys2Proof.Machine
end

