-- ==== Sys2Proof/Laws/PerInstr.lean ====
section
/-! SUPPORT. Facts about every instruction as syntax, one lemma for each constructor. -/

namespace Sys2Proof

/-- The row of the opcode map at an instruction's opcode byte rebuilds the instruction from its operand bytes. -/
def Laws.OpcodeRow.Statement (i : Instr) : Prop :=
  match opcodeMap (opcode i), (encode i).tail with
  | .f1 j, [] => j = i
  | .f2 make, [v] => make v = i
  | .f3 make, [lo, hi] => make (wordOf hi lo) = i
  | _, _ => False

end Sys2Proof

namespace Sys2Proof.Laws.OpcodeRow

theorem lxiB (v : Word) : Statement (.lxiB v) := by
  rw [Statement, show opcode (.lxiB v) = 0x01 from rfl]
  exact congrArg Instr.lxiB (wordOf_halves v)
theorem lxiD (v : Word) : Statement (.lxiD v) := by
  rw [Statement, show opcode (.lxiD v) = 0x11 from rfl]
  exact congrArg Instr.lxiD (wordOf_halves v)
theorem lxiH (v : Word) : Statement (.lxiH v) := by
  rw [Statement, show opcode (.lxiH v) = 0x21 from rfl]
  exact congrArg Instr.lxiH (wordOf_halves v)
theorem shld (v : Word) : Statement (.shld v) := by
  rw [Statement, show opcode (.shld v) = 0x22 from rfl]
  exact congrArg Instr.shld (wordOf_halves v)
theorem lhld (v : Word) : Statement (.lhld v) := by
  rw [Statement, show opcode (.lhld v) = 0x2A from rfl]
  exact congrArg Instr.lhld (wordOf_halves v)
theorem lxiSp (v : Word) : Statement (.lxiSp v) := by
  rw [Statement, show opcode (.lxiSp v) = 0x31 from rfl]
  exact congrArg Instr.lxiSp (wordOf_halves v)
theorem sta (v : Word) : Statement (.sta v) := by
  rw [Statement, show opcode (.sta v) = 0x32 from rfl]
  exact congrArg Instr.sta (wordOf_halves v)
theorem lda (v : Word) : Statement (.lda v) := by
  rw [Statement, show opcode (.lda v) = 0x3A from rfl]
  exact congrArg Instr.lda (wordOf_halves v)
theorem jnz (v : Word) : Statement (.jnz v) := by
  rw [Statement, show opcode (.jnz v) = 0xC2 from rfl]
  exact congrArg Instr.jnz (wordOf_halves v)
theorem jmp (v : Word) : Statement (.jmp v) := by
  rw [Statement, show opcode (.jmp v) = 0xC3 from rfl]
  exact congrArg Instr.jmp (wordOf_halves v)
theorem cnz (v : Word) : Statement (.cnz v) := by
  rw [Statement, show opcode (.cnz v) = 0xC4 from rfl]
  exact congrArg Instr.cnz (wordOf_halves v)
theorem jz (v : Word) : Statement (.jz v) := by
  rw [Statement, show opcode (.jz v) = 0xCA from rfl]
  exact congrArg Instr.jz (wordOf_halves v)
theorem cz (v : Word) : Statement (.cz v) := by
  rw [Statement, show opcode (.cz v) = 0xCC from rfl]
  exact congrArg Instr.cz (wordOf_halves v)
theorem call (v : Word) : Statement (.call v) := by
  rw [Statement, show opcode (.call v) = 0xCD from rfl]
  exact congrArg Instr.call (wordOf_halves v)
theorem jnc (v : Word) : Statement (.jnc v) := by
  rw [Statement, show opcode (.jnc v) = 0xD2 from rfl]
  exact congrArg Instr.jnc (wordOf_halves v)
theorem cnc (v : Word) : Statement (.cnc v) := by
  rw [Statement, show opcode (.cnc v) = 0xD4 from rfl]
  exact congrArg Instr.cnc (wordOf_halves v)
theorem jc (v : Word) : Statement (.jc v) := by
  rw [Statement, show opcode (.jc v) = 0xDA from rfl]
  exact congrArg Instr.jc (wordOf_halves v)
theorem cc (v : Word) : Statement (.cc v) := by
  rw [Statement, show opcode (.cc v) = 0xDC from rfl]
  exact congrArg Instr.cc (wordOf_halves v)
theorem jpo (v : Word) : Statement (.jpo v) := by
  rw [Statement, show opcode (.jpo v) = 0xE2 from rfl]
  exact congrArg Instr.jpo (wordOf_halves v)
theorem cpo (v : Word) : Statement (.cpo v) := by
  rw [Statement, show opcode (.cpo v) = 0xE4 from rfl]
  exact congrArg Instr.cpo (wordOf_halves v)
theorem jpe (v : Word) : Statement (.jpe v) := by
  rw [Statement, show opcode (.jpe v) = 0xEA from rfl]
  exact congrArg Instr.jpe (wordOf_halves v)
theorem cpe (v : Word) : Statement (.cpe v) := by
  rw [Statement, show opcode (.cpe v) = 0xEC from rfl]
  exact congrArg Instr.cpe (wordOf_halves v)
theorem jp (v : Word) : Statement (.jp v) := by
  rw [Statement, show opcode (.jp v) = 0xF2 from rfl]
  exact congrArg Instr.jp (wordOf_halves v)
theorem cp (v : Word) : Statement (.cp v) := by
  rw [Statement, show opcode (.cp v) = 0xF4 from rfl]
  exact congrArg Instr.cp (wordOf_halves v)
theorem jm (v : Word) : Statement (.jm v) := by
  rw [Statement, show opcode (.jm v) = 0xFA from rfl]
  exact congrArg Instr.jm (wordOf_halves v)
theorem cm (v : Word) : Statement (.cm v) := by
  rw [Statement, show opcode (.cm v) = 0xFC from rfl]
  exact congrArg Instr.cm (wordOf_halves v)
theorem mviB (v : Byte) : Statement (.mviB v) := by
  rw [Statement, show opcode (.mviB v) = 0x06 from rfl]
  rfl
theorem mviC (v : Byte) : Statement (.mviC v) := by
  rw [Statement, show opcode (.mviC v) = 0x0E from rfl]
  rfl
theorem mviD (v : Byte) : Statement (.mviD v) := by
  rw [Statement, show opcode (.mviD v) = 0x16 from rfl]
  rfl
theorem mviE (v : Byte) : Statement (.mviE v) := by
  rw [Statement, show opcode (.mviE v) = 0x1E from rfl]
  rfl
theorem mviH (v : Byte) : Statement (.mviH v) := by
  rw [Statement, show opcode (.mviH v) = 0x26 from rfl]
  rfl
theorem mviL (v : Byte) : Statement (.mviL v) := by
  rw [Statement, show opcode (.mviL v) = 0x2E from rfl]
  rfl
theorem mviM (v : Byte) : Statement (.mviM v) := by
  rw [Statement, show opcode (.mviM v) = 0x36 from rfl]
  rfl
theorem mviA (v : Byte) : Statement (.mviA v) := by
  rw [Statement, show opcode (.mviA v) = 0x3E from rfl]
  rfl
theorem adi (v : Byte) : Statement (.adi v) := by
  rw [Statement, show opcode (.adi v) = 0xC6 from rfl]
  rfl
theorem aci (v : Byte) : Statement (.aci v) := by
  rw [Statement, show opcode (.aci v) = 0xCE from rfl]
  rfl
theorem out (v : Byte) : Statement (.out v) := by
  rw [Statement, show opcode (.out v) = 0xD3 from rfl]
  rfl
theorem sui (v : Byte) : Statement (.sui v) := by
  rw [Statement, show opcode (.sui v) = 0xD6 from rfl]
  rfl
theorem inp (v : Byte) : Statement (.inp v) := by
  rw [Statement, show opcode (.inp v) = 0xDB from rfl]
  rfl
theorem sbi (v : Byte) : Statement (.sbi v) := by
  rw [Statement, show opcode (.sbi v) = 0xDE from rfl]
  rfl
theorem ani (v : Byte) : Statement (.ani v) := by
  rw [Statement, show opcode (.ani v) = 0xE6 from rfl]
  rfl
theorem xri (v : Byte) : Statement (.xri v) := by
  rw [Statement, show opcode (.xri v) = 0xEE from rfl]
  rfl
theorem ori (v : Byte) : Statement (.ori v) := by
  rw [Statement, show opcode (.ori v) = 0xF6 from rfl]
  rfl
theorem cpi (v : Byte) : Statement (.cpi v) := by
  rw [Statement, show opcode (.cpi v) = 0xFE from rfl]
  rfl
theorem nop : Statement .nop := rfl
theorem staxB : Statement .staxB := rfl
theorem inxB : Statement .inxB := rfl
theorem inrB : Statement .inrB := rfl
theorem dcrB : Statement .dcrB := rfl
theorem rlc : Statement .rlc := rfl
theorem nop08 : Statement .nop08 := rfl
theorem dadB : Statement .dadB := rfl
theorem ldaxB : Statement .ldaxB := rfl
theorem dcxB : Statement .dcxB := rfl
theorem inrC : Statement .inrC := rfl
theorem dcrC : Statement .dcrC := rfl
theorem rrc : Statement .rrc := rfl
theorem nop10 : Statement .nop10 := rfl
theorem staxD : Statement .staxD := rfl
theorem inxD : Statement .inxD := rfl
theorem inrD : Statement .inrD := rfl
theorem dcrD : Statement .dcrD := rfl
theorem ral : Statement .ral := rfl
theorem nop18 : Statement .nop18 := rfl
theorem dadD : Statement .dadD := rfl
theorem ldaxD : Statement .ldaxD := rfl
theorem dcxD : Statement .dcxD := rfl
theorem inrE : Statement .inrE := rfl
theorem dcrE : Statement .dcrE := rfl
theorem rar : Statement .rar := rfl
theorem nop20 : Statement .nop20 := rfl
theorem inxH : Statement .inxH := rfl
theorem inrH : Statement .inrH := rfl
theorem dcrH : Statement .dcrH := rfl
theorem daa : Statement .daa := rfl
theorem nop28 : Statement .nop28 := rfl
theorem dadH : Statement .dadH := rfl
theorem dcxH : Statement .dcxH := rfl
theorem inrL : Statement .inrL := rfl
theorem dcrL : Statement .dcrL := rfl
theorem cma : Statement .cma := rfl
theorem nop30 : Statement .nop30 := rfl
theorem inxSp : Statement .inxSp := rfl
theorem inrM : Statement .inrM := rfl
theorem dcrM : Statement .dcrM := rfl
theorem stc : Statement .stc := rfl
theorem nop38 : Statement .nop38 := rfl
theorem dadSp : Statement .dadSp := rfl
theorem dcxSp : Statement .dcxSp := rfl
theorem inrA : Statement .inrA := rfl
theorem dcrA : Statement .dcrA := rfl
theorem cmc : Statement .cmc := rfl
theorem movBB : Statement .movBB := rfl
theorem movBC : Statement .movBC := rfl
theorem movBD : Statement .movBD := rfl
theorem movBE : Statement .movBE := rfl
theorem movBH : Statement .movBH := rfl
theorem movBL : Statement .movBL := rfl
theorem movBM : Statement .movBM := rfl
theorem movBA : Statement .movBA := rfl
theorem movCB : Statement .movCB := rfl
theorem movCC : Statement .movCC := rfl
theorem movCD : Statement .movCD := rfl
theorem movCE : Statement .movCE := rfl
theorem movCH : Statement .movCH := rfl
theorem movCL : Statement .movCL := rfl
theorem movCM : Statement .movCM := rfl
theorem movCA : Statement .movCA := rfl
theorem movDB : Statement .movDB := rfl
theorem movDC : Statement .movDC := rfl
theorem movDD : Statement .movDD := rfl
theorem movDE : Statement .movDE := rfl
theorem movDH : Statement .movDH := rfl
theorem movDL : Statement .movDL := rfl
theorem movDM : Statement .movDM := rfl
theorem movDA : Statement .movDA := rfl
theorem movEB : Statement .movEB := rfl
theorem movEC : Statement .movEC := rfl
theorem movED : Statement .movED := rfl
theorem movEE : Statement .movEE := rfl
theorem movEH : Statement .movEH := rfl
theorem movEL : Statement .movEL := rfl
theorem movEM : Statement .movEM := rfl
theorem movEA : Statement .movEA := rfl
theorem movHB : Statement .movHB := rfl
theorem movHC : Statement .movHC := rfl
theorem movHD : Statement .movHD := rfl
theorem movHE : Statement .movHE := rfl
theorem movHH : Statement .movHH := rfl
theorem movHL : Statement .movHL := rfl
theorem movHM : Statement .movHM := rfl
theorem movHA : Statement .movHA := rfl
theorem movLB : Statement .movLB := rfl
theorem movLC : Statement .movLC := rfl
theorem movLD : Statement .movLD := rfl
theorem movLE : Statement .movLE := rfl
theorem movLH : Statement .movLH := rfl
theorem movLL : Statement .movLL := rfl
theorem movLM : Statement .movLM := rfl
theorem movLA : Statement .movLA := rfl
theorem movMB : Statement .movMB := rfl
theorem movMC : Statement .movMC := rfl
theorem movMD : Statement .movMD := rfl
theorem movME : Statement .movME := rfl
theorem movMH : Statement .movMH := rfl
theorem movML : Statement .movML := rfl
theorem hlt : Statement .hlt := rfl
theorem movMA : Statement .movMA := rfl
theorem movAB : Statement .movAB := rfl
theorem movAC : Statement .movAC := rfl
theorem movAD : Statement .movAD := rfl
theorem movAE : Statement .movAE := rfl
theorem movAH : Statement .movAH := rfl
theorem movAL : Statement .movAL := rfl
theorem movAM : Statement .movAM := rfl
theorem movAA : Statement .movAA := rfl
theorem addB : Statement .addB := rfl
theorem addC : Statement .addC := rfl
theorem addD : Statement .addD := rfl
theorem addE : Statement .addE := rfl
theorem addH : Statement .addH := rfl
theorem addL : Statement .addL := rfl
theorem addM : Statement .addM := rfl
theorem addA : Statement .addA := rfl
theorem adcB : Statement .adcB := rfl
theorem adcC : Statement .adcC := rfl
theorem adcD : Statement .adcD := rfl
theorem adcE : Statement .adcE := rfl
theorem adcH : Statement .adcH := rfl
theorem adcL : Statement .adcL := rfl
theorem adcM : Statement .adcM := rfl
theorem adcA : Statement .adcA := rfl
theorem subB : Statement .subB := rfl
theorem subC : Statement .subC := rfl
theorem subD : Statement .subD := rfl
theorem subE : Statement .subE := rfl
theorem subH : Statement .subH := rfl
theorem subL : Statement .subL := rfl
theorem subM : Statement .subM := rfl
theorem subA : Statement .subA := rfl
theorem sbbB : Statement .sbbB := rfl
theorem sbbC : Statement .sbbC := rfl
theorem sbbD : Statement .sbbD := rfl
theorem sbbE : Statement .sbbE := rfl
theorem sbbH : Statement .sbbH := rfl
theorem sbbL : Statement .sbbL := rfl
theorem sbbM : Statement .sbbM := rfl
theorem sbbA : Statement .sbbA := rfl
theorem anaB : Statement .anaB := rfl
theorem anaC : Statement .anaC := rfl
theorem anaD : Statement .anaD := rfl
theorem anaE : Statement .anaE := rfl
theorem anaH : Statement .anaH := rfl
theorem anaL : Statement .anaL := rfl
theorem anaM : Statement .anaM := rfl
theorem anaA : Statement .anaA := rfl
theorem xraB : Statement .xraB := rfl
theorem xraC : Statement .xraC := rfl
theorem xraD : Statement .xraD := rfl
theorem xraE : Statement .xraE := rfl
theorem xraH : Statement .xraH := rfl
theorem xraL : Statement .xraL := rfl
theorem xraM : Statement .xraM := rfl
theorem xraA : Statement .xraA := rfl
theorem oraB : Statement .oraB := rfl
theorem oraC : Statement .oraC := rfl
theorem oraD : Statement .oraD := rfl
theorem oraE : Statement .oraE := rfl
theorem oraH : Statement .oraH := rfl
theorem oraL : Statement .oraL := rfl
theorem oraM : Statement .oraM := rfl
theorem oraA : Statement .oraA := rfl
theorem cmpB : Statement .cmpB := rfl
theorem cmpC : Statement .cmpC := rfl
theorem cmpD : Statement .cmpD := rfl
theorem cmpE : Statement .cmpE := rfl
theorem cmpH : Statement .cmpH := rfl
theorem cmpL : Statement .cmpL := rfl
theorem cmpM : Statement .cmpM := rfl
theorem cmpA : Statement .cmpA := rfl
theorem rnz : Statement .rnz := rfl
theorem popB : Statement .popB := rfl
theorem pushB : Statement .pushB := rfl
theorem rst0 : Statement .rst0 := rfl
theorem rz : Statement .rz := rfl
theorem ret : Statement .ret := rfl
theorem undefCB : Statement .undefCB := rfl
theorem rst1 : Statement .rst1 := rfl
theorem rnc : Statement .rnc := rfl
theorem popD : Statement .popD := rfl
theorem pushD : Statement .pushD := rfl
theorem rst2 : Statement .rst2 := rfl
theorem rc : Statement .rc := rfl
theorem retD9 : Statement .retD9 := rfl
theorem undefDD : Statement .undefDD := rfl
theorem rst3 : Statement .rst3 := rfl
theorem rpo : Statement .rpo := rfl
theorem popH : Statement .popH := rfl
theorem xthl : Statement .xthl := rfl
theorem pushH : Statement .pushH := rfl
theorem rst4 : Statement .rst4 := rfl
theorem rpe : Statement .rpe := rfl
theorem pchl : Statement .pchl := rfl
theorem xchg : Statement .xchg := rfl
theorem undefED : Statement .undefED := rfl
theorem rst5 : Statement .rst5 := rfl
theorem rp : Statement .rp := rfl
theorem popPsw : Statement .popPsw := rfl
theorem di : Statement .di := rfl
theorem pushPsw : Statement .pushPsw := rfl
theorem rst6 : Statement .rst6 := rfl
theorem rm : Statement .rm := rfl
theorem sphl : Statement .sphl := rfl
theorem ei : Statement .ei := rfl
theorem undefFD : Statement .undefFD := rfl
theorem rst7 : Statement .rst7 := rfl

end Sys2Proof.Laws.OpcodeRow
end

