-- ==== Sys2Proof/Laws/Stores.lean ====
section
/-! SUPPORT. What a byte store and a word store do to the memory as it is read, in the words of `Safety.lean`. -/

namespace Sys2Proof.Machine

variable {s : State} {addr : Word}

/-! ### Byte stores -/

theorem byteStored_writeByte {v : Byte} (h : s.Inv) :
    ByteStored addr v s (writeByte addr v s) :=
  ⟨fun _ hx => readByte_writeByte_of_ne hx, fun _ hx hw => readByte_writeByte_of_same h hw hx,
    fun _ _ hw => by rw [writeByte_dropped hw]⟩

/-- What a store does depends on the memory of the two states alone. -/
theorem ByteStored.congr {v : Byte} {t u : State} (h : ByteStored addr v s t)
    (hc : u.config = t.config) (hm : u.store = t.store) : ByteStored addr v s u := by
  obtain ⟨h1, h2, h3⟩ := h
  exact ⟨fun x hx => (readByte_congr hc hm).trans (h1 x hx), fun x hx hw => (readByte_congr hc hm).trans (h2 x hx hw),
    fun x hx hw => (readByte_congr hc hm).trans (h3 x hx hw)⟩

/-! ### Word stores -/

theorem resolve_arcade (a : Word) :
    resolve .arcade a =
      if a.toNat ≤ 0x3FFF then some a.toNat else if a.toNat ≤ 0x43FF then some (a.toNat - 0x2000) else none := rfl

theorem resolve_console (a : Word) : resolve .console a = some a.toNat := rfl

/-- The two bytes of a word lie in different cells, unless neither is mapped. -/
theorem not_sameCell_succ (h : CanRead s addr ∨ CanRead s (addr + 1)) : ¬ SameCell s addr (addr + 1) := by
  have hne : (addr + 1).toNat = (addr.toNat + 1) % 65536 := by simp [BitVec.toNat_add]
  have := addr.isLt
  unfold SameCell CanRead at *
  intro he
  cases hm : s.config.mode with
  | console =>
    simp only [hm, resolve_console, Option.some.injEq] at he
    omega
  | arcade =>
    simp only [hm, reduceCtorEq, false_or] at h
    simp only [hm, resolve_arcade] at he
    split at he <;> split at he <;> (try split at he) <;> (try split at he) <;>
      first
        | (simp only [Option.some.injEq] at he; omega)
        | simp at he

theorem canRead_of_canWrite (h : CanWrite s addr) : CanRead s addr := by
  rcases h with h | h
  · exact Or.inl h
  · exact Or.inr (by omega)

/-- A word store is two byte stores to different cells. -/
theorem wordStored_writeWord {v : Word} (h : s.Inv) : WordStored addr v s (writeWord addr v s) := by
  have hw1 : ∀ x, CanWrite (writeByte addr (lowByte v) s) x ↔ CanWrite s x := fun x => by
    unfold CanWrite; rw [writeByte_config]
  have hsame : ∀ x y, SameCell (writeByte addr (lowByte v) s) x y ↔ SameCell s x y := fun x y => by
    unfold SameCell; rw [writeByte_config]
  have hinv := writeByte_inv (v := lowByte v) (addr := addr) h
  unfold writeWord
  refine ⟨fun x h1 h2 => ?_, fun x hx hw => ?_, fun x hx hw => ?_, fun x hx hw => ?_, fun x hx hw => ?_⟩
  · rw [readByte_writeByte_of_ne (mt (hsame _ _).mp h2), readByte_writeByte_of_ne h1]
  · rw [readByte_writeByte_of_ne, readByte_writeByte_of_same h hw hx]
    rw [hsame]
    exact fun hx' => not_sameCell_succ (Or.inl (canRead_of_canWrite hw)) (hx.symm.trans hx')
  · by_cases hx' : SameCell s x (addr + 1)
    · by_cases hw' : CanWrite s (addr + 1)
      · exact absurd (hx.symm.trans hx') (not_sameCell_succ (Or.inr (canRead_of_canWrite hw')))
      · rw [writeByte_dropped (mt (hw1 _).mp hw'), writeByte_dropped hw]
    · rw [readByte_writeByte_of_ne (mt (hsame _ _).mp hx'), writeByte_dropped hw]
  · exact readByte_writeByte_of_same hinv ((hw1 _).mpr hw) ((hsame _ _).mpr hx)
  · rw [writeByte_dropped (mt (hw1 _).mp hw)]
    by_cases hx' : SameCell s x addr
    · by_cases hw' : CanWrite s addr
      · exact absurd (hx'.symm.trans hx) (not_sameCell_succ (Or.inl (canRead_of_canWrite hw')))
      · rw [writeByte_dropped hw']
    · exact readByte_writeByte_of_ne hx'

/-- What a word store does depends on the memory of the two states alone. -/
theorem WordStored.congr {v : Word} {t u : State} (h : WordStored addr v s t) (hc : u.config = t.config)
    (hm : u.store = t.store) : WordStored addr v s u := by
  have hr : ∀ x, readByte u x = readByte t x := fun x => readByte_congr hc hm
  unfold WordStored at *
  simpa only [hr] using h

theorem WordStored.congr_left {v : Word} {t u : State} (h : WordStored addr v u t) (hc : u.config = s.config)
    (hm : u.store = s.store) : WordStored addr v s t := by
  have hr : ∀ x, readByte u x = readByte s x := fun x => readByte_congr hc hm
  unfold WordStored SameCell CanWrite at *
  simpa only [hr, hc] using h

theorem wordStored_push16 {v : Word} (h : s.Inv) : WordStored (s.sp - 2) v s (push16 v s) :=
  (wordStored_writeWord (s := s.setSp (s.sp - 2)) h).congr_left rfl rfl

theorem wordStored_callTo {target : Word} (h : s.Inv) : WordStored (s.sp - 2) s.pc s (callTo target s) :=
  (wordStored_push16 h).congr rfl rfl

theorem writeWord_setStore (addr v : Word) (s : State) : writeWord addr v s = s.setStore (writeWord addr v s).store := by
  unfold writeWord
  rw [writeByte_setStore addr (lowByte v) s, writeByte_setStore (addr + 1)]
  rfl

theorem push16_eq (v : Word) (s : State) : push16 v s = (s.setSp (s.sp - 2)).setStore (push16 v s).store :=
  writeWord_setStore _ _ _

/-! ### Reading the stack -/

theorem pop16_of_bytes {lo hi : Byte} (hl : readByte s s.sp = .ok lo) (hh : readByte s (s.sp + 1) = .ok hi) :
    pop16 s = .ok (wordOf hi lo, s.setSp (s.sp + 2)) := by
  unfold pop16
  rw [readWord_of_bytes hl hh]

theorem readWord_fault_low (h : ¬ CanRead s addr) : readWord s addr = .error (.unmappedRead addr) := by
  unfold readWord
  rw [readByte_unmapped h]

theorem readWord_fault_high (h : CanRead s addr) (h' : ¬ CanRead s (addr + 1)) :
    readWord s addr = .error (.unmappedRead (addr + 1)) := by
  obtain ⟨v, hv⟩ := readByte_ok h
  unfold readWord
  rw [hv, readByte_unmapped h']

end Sys2Proof.Machine
end

