-- ==== Sys2Proof/Tests/Slice0.lean ====
section
/-! SUPPORT. Tests. Every expected value is taken from the spec: `opcode_table.json` for the decoding, the vectors of
`95_test_vectors.md` (under their ids) and the examples of the rules for the meanings. Then one state and operands for every
statement that has hypotheses, which meet all of them. -/

namespace Sys2Proof.Tests

open Sys2Proof Sys2Proof.Machine

/-! ### Helpers -/

/-- The state after construction in a mode, with PC and some cells set. -/
def start (mode : Mode) (pc : Word) (cells : Memory) : State :=
  { State.construct { resetConfig with mode := mode } with pc := pc, store := cells }

def noRegs : Regs := ⟨0, 0, 0, 0, 0, 0, 0⟩

def noFlags : Flags := ⟨false, false, false, false, false⟩

/-- The result is a next state with this property. -/
def nextWith (r : Result) (p : State → Bool) : Bool :=
  match r with
  | .next t => p t
  | .fault _ => false
  | .refused _ => false

/-- One step gives a next state with this property. -/
def stepsWith (s : State) (p : State → Bool) : Bool := nextWith (step s) p

/-- One step stops with this fault. -/
def faultsWith (s : State) (f : Fault) : Bool :=
  match step s with
  | .next _ => false
  | .fault g => g == f
  | .refused _ => false

/-- One host call is refused for this reason. -/
def refusesWith (s : State) (op : HostOp) (r : Refusal) : Bool :=
  match perform op s with
  | .next _ => false
  | .fault _ => false
  | .refused q => q == r

/-- Each list of bytes decodes to the instruction beside it, with nothing left. -/
def decodesAll (rows : List (List Byte × Instr)) : Bool :=
  rows.all fun r =>
    match decode r.1 with
    | .ok (i, rest) => i == r.2 && rest == []
    | .error _ => false

/-! ### Well-formedness: an ill-formed term for each check -/

theorem test_load_past_the_end_is_ill_formed : HostOp.wellFormed .console (.load 0xFFFF [0x01, 0x02]) = false := by decide

theorem test_load_above_rom_and_ram_is_ill_formed : HostOp.wellFormed .arcade (.load 0x3FFF [0x01, 0x02]) = false := by
  decide

theorem test_interrupt_id_2_is_ill_formed : HostOp.wellFormed .arcade (.interrupt 2) = false := by decide

theorem test_unsorted_store_is_ill_formed : Memory.wf [(2, 0x01), (1, 0x01)] = false := by decide

theorem test_repeated_cell_is_ill_formed : Memory.wf [(1, 0x01), (1, 0x02)] = false := by decide

theorem test_listed_zero_is_ill_formed : Memory.wf [(1, 0x00)] = false := by decide

theorem test_cell_outside_the_store_is_ill_formed : Memory.wf [(65536, 0x01)] = false := by decide

theorem test_no_byte_is_no_instruction : decode [] = .error .noOpcode := by rfl

theorem test_missing_operand_is_no_instruction : decode [0xC3, 0x00] = .error (.operandMissing 0xC3) := by rfl

/-! ### Decoding -/

/-! Every opcode of `opcode_table.json`, a row of the grid of `30_encoding.md` R109 at a time. -/

theorem test_decode_row_0 :
    decodesAll [([0x00], .nop), ([0x01, 0x34, 0x12], .lxiB 0x1234), ([0x02], .staxB), ([0x03], .inxB),
      ([0x04], .inrB), ([0x05], .dcrB), ([0x06, 0xA5], .mviB 0xA5), ([0x07], .rlc), ([0x08], .nop08),
      ([0x09], .dadB), ([0x0A], .ldaxB), ([0x0B], .dcxB), ([0x0C], .inrC), ([0x0D], .dcrC),
      ([0x0E, 0xA5], .mviC 0xA5), ([0x0F], .rrc)] = true := by
  decide

theorem test_decode_row_1 :
    decodesAll [([0x10], .nop10), ([0x11, 0x34, 0x12], .lxiD 0x1234), ([0x12], .staxD), ([0x13], .inxD),
      ([0x14], .inrD), ([0x15], .dcrD), ([0x16, 0xA5], .mviD 0xA5), ([0x17], .ral), ([0x18], .nop18),
      ([0x19], .dadD), ([0x1A], .ldaxD), ([0x1B], .dcxD), ([0x1C], .inrE), ([0x1D], .dcrE),
      ([0x1E, 0xA5], .mviE 0xA5), ([0x1F], .rar)] = true := by
  decide

theorem test_decode_row_2 :
    decodesAll [([0x20], .nop20), ([0x21, 0x34, 0x12], .lxiH 0x1234), ([0x22, 0x34, 0x12], .shld 0x1234),
      ([0x23], .inxH), ([0x24], .inrH), ([0x25], .dcrH), ([0x26, 0xA5], .mviH 0xA5), ([0x27], .daa),
      ([0x28], .nop28), ([0x29], .dadH), ([0x2A, 0x34, 0x12], .lhld 0x1234), ([0x2B], .dcxH), ([0x2C], .inrL),
      ([0x2D], .dcrL), ([0x2E, 0xA5], .mviL 0xA5), ([0x2F], .cma)] = true := by
  decide

theorem test_decode_row_3 :
    decodesAll [([0x30], .nop30), ([0x31, 0x34, 0x12], .lxiSp 0x1234), ([0x32, 0x34, 0x12], .sta 0x1234),
      ([0x33], .inxSp), ([0x34], .inrM), ([0x35], .dcrM), ([0x36, 0xA5], .mviM 0xA5), ([0x37], .stc),
      ([0x38], .nop38), ([0x39], .dadSp), ([0x3A, 0x34, 0x12], .lda 0x1234), ([0x3B], .dcxSp), ([0x3C], .inrA),
      ([0x3D], .dcrA), ([0x3E, 0xA5], .mviA 0xA5), ([0x3F], .cmc)] = true := by
  decide

theorem test_decode_row_4 :
    decodesAll [([0x40], .movBB), ([0x41], .movBC), ([0x42], .movBD), ([0x43], .movBE), ([0x44], .movBH),
      ([0x45], .movBL), ([0x46], .movBM), ([0x47], .movBA), ([0x48], .movCB), ([0x49], .movCC), ([0x4A], .movCD),
      ([0x4B], .movCE), ([0x4C], .movCH), ([0x4D], .movCL), ([0x4E], .movCM), ([0x4F], .movCA)] = true := by
  decide

theorem test_decode_row_5 :
    decodesAll [([0x50], .movDB), ([0x51], .movDC), ([0x52], .movDD), ([0x53], .movDE), ([0x54], .movDH),
      ([0x55], .movDL), ([0x56], .movDM), ([0x57], .movDA), ([0x58], .movEB), ([0x59], .movEC), ([0x5A], .movED),
      ([0x5B], .movEE), ([0x5C], .movEH), ([0x5D], .movEL), ([0x5E], .movEM), ([0x5F], .movEA)] = true := by
  decide

theorem test_decode_row_6 :
    decodesAll [([0x60], .movHB), ([0x61], .movHC), ([0x62], .movHD), ([0x63], .movHE), ([0x64], .movHH),
      ([0x65], .movHL), ([0x66], .movHM), ([0x67], .movHA), ([0x68], .movLB), ([0x69], .movLC), ([0x6A], .movLD),
      ([0x6B], .movLE), ([0x6C], .movLH), ([0x6D], .movLL), ([0x6E], .movLM), ([0x6F], .movLA)] = true := by
  decide

theorem test_decode_row_7 :
    decodesAll [([0x70], .movMB), ([0x71], .movMC), ([0x72], .movMD), ([0x73], .movME), ([0x74], .movMH),
      ([0x75], .movML), ([0x76], .hlt), ([0x77], .movMA), ([0x78], .movAB), ([0x79], .movAC), ([0x7A], .movAD),
      ([0x7B], .movAE), ([0x7C], .movAH), ([0x7D], .movAL), ([0x7E], .movAM), ([0x7F], .movAA)] = true := by
  decide

theorem test_decode_row_8 :
    decodesAll [([0x80], .addB), ([0x81], .addC), ([0x82], .addD), ([0x83], .addE), ([0x84], .addH), ([0x85], .addL),
      ([0x86], .addM), ([0x87], .addA), ([0x88], .adcB), ([0x89], .adcC), ([0x8A], .adcD), ([0x8B], .adcE),
      ([0x8C], .adcH), ([0x8D], .adcL), ([0x8E], .adcM), ([0x8F], .adcA)] = true := by
  decide

theorem test_decode_row_9 :
    decodesAll [([0x90], .subB), ([0x91], .subC), ([0x92], .subD), ([0x93], .subE), ([0x94], .subH), ([0x95], .subL),
      ([0x96], .subM), ([0x97], .subA), ([0x98], .sbbB), ([0x99], .sbbC), ([0x9A], .sbbD), ([0x9B], .sbbE),
      ([0x9C], .sbbH), ([0x9D], .sbbL), ([0x9E], .sbbM), ([0x9F], .sbbA)] = true := by
  decide

theorem test_decode_row_A :
    decodesAll [([0xA0], .anaB), ([0xA1], .anaC), ([0xA2], .anaD), ([0xA3], .anaE), ([0xA4], .anaH), ([0xA5], .anaL),
      ([0xA6], .anaM), ([0xA7], .anaA), ([0xA8], .xraB), ([0xA9], .xraC), ([0xAA], .xraD), ([0xAB], .xraE),
      ([0xAC], .xraH), ([0xAD], .xraL), ([0xAE], .xraM), ([0xAF], .xraA)] = true := by
  decide

theorem test_decode_row_B :
    decodesAll [([0xB0], .oraB), ([0xB1], .oraC), ([0xB2], .oraD), ([0xB3], .oraE), ([0xB4], .oraH), ([0xB5], .oraL),
      ([0xB6], .oraM), ([0xB7], .oraA), ([0xB8], .cmpB), ([0xB9], .cmpC), ([0xBA], .cmpD), ([0xBB], .cmpE),
      ([0xBC], .cmpH), ([0xBD], .cmpL), ([0xBE], .cmpM), ([0xBF], .cmpA)] = true := by
  decide

theorem test_decode_row_C :
    decodesAll [([0xC0], .rnz), ([0xC1], .popB), ([0xC2, 0x34, 0x12], .jnz 0x1234),
      ([0xC3, 0x34, 0x12], .jmp 0x1234), ([0xC4, 0x34, 0x12], .cnz 0x1234), ([0xC5], .pushB),
      ([0xC6, 0xA5], .adi 0xA5), ([0xC7], .rst0), ([0xC8], .rz), ([0xC9], .ret), ([0xCA, 0x34, 0x12], .jz 0x1234),
      ([0xCB], .undefCB), ([0xCC, 0x34, 0x12], .cz 0x1234), ([0xCD, 0x34, 0x12], .call 0x1234),
      ([0xCE, 0xA5], .aci 0xA5), ([0xCF], .rst1)] = true := by
  decide

theorem test_decode_row_D :
    decodesAll [([0xD0], .rnc), ([0xD1], .popD), ([0xD2, 0x34, 0x12], .jnc 0x1234), ([0xD3, 0xA5], .out 0xA5),
      ([0xD4, 0x34, 0x12], .cnc 0x1234), ([0xD5], .pushD), ([0xD6, 0xA5], .sui 0xA5), ([0xD7], .rst2), ([0xD8], .rc),
      ([0xD9], .retD9), ([0xDA, 0x34, 0x12], .jc 0x1234), ([0xDB, 0xA5], .inp 0xA5),
      ([0xDC, 0x34, 0x12], .cc 0x1234), ([0xDD], .undefDD), ([0xDE, 0xA5], .sbi 0xA5), ([0xDF], .rst3)] = true := by
  decide

theorem test_decode_row_E :
    decodesAll [([0xE0], .rpo), ([0xE1], .popH), ([0xE2, 0x34, 0x12], .jpo 0x1234), ([0xE3], .xthl),
      ([0xE4, 0x34, 0x12], .cpo 0x1234), ([0xE5], .pushH), ([0xE6, 0xA5], .ani 0xA5), ([0xE7], .rst4),
      ([0xE8], .rpe), ([0xE9], .pchl), ([0xEA, 0x34, 0x12], .jpe 0x1234), ([0xEB], .xchg),
      ([0xEC, 0x34, 0x12], .cpe 0x1234), ([0xED], .undefED), ([0xEE, 0xA5], .xri 0xA5), ([0xEF], .rst5)] = true := by
  decide

theorem test_decode_row_F :
    decodesAll [([0xF0], .rp), ([0xF1], .popPsw), ([0xF2, 0x34, 0x12], .jp 0x1234), ([0xF3], .di),
      ([0xF4, 0x34, 0x12], .cp 0x1234), ([0xF5], .pushPsw), ([0xF6, 0xA5], .ori 0xA5), ([0xF7], .rst6),
      ([0xF8], .rm), ([0xF9], .sphl), ([0xFA, 0x34, 0x12], .jm 0x1234), ([0xFB], .ei),
      ([0xFC, 0x34, 0x12], .cm 0x1234), ([0xFD], .undefFD), ([0xFE, 0xA5], .cpi 0xA5), ([0xFF], .rst7)] = true := by
  decide


/-! A word of each family, bit by bit from the table's `encoding`. -/

theorem test_word_mov : decode [0b01000001] = .ok (.movBC, []) := by rfl

theorem test_word_lxi : decode [0b00110001, 0b00000000, 0b00100100] = .ok (.lxiSp 0x2400, []) := by rfl

theorem test_word_sbb_m : decode [0b10011110] = .ok (.sbbM, []) := by rfl

theorem test_word_jpe : decode [0b11101010, 0b00000000, 0b00110000] = .ok (.jpe 0x3000, []) := by rfl

theorem test_word_rst : decode [0b11010111] = .ok (.rst2, []) := by rfl

theorem test_word_xri : decode [0b11101110, 0b10000001] = .ok (.xri 0x81, []) := by rfl

theorem test_word_out : decode [0b11010011, 0b00000100] = .ok (.out 0x04, []) := by rfl

/-- The operand of a table word stands above its opcode byte; bits it does not have are zero. -/
theorem test_table_word : decodeTableWord 24 0x2000C3 = some (.jmp 0x2000) ∧ decodeTableWord 8 0xC3 = some (.jmp 0x0000) := by
  exact ⟨rfl, rfl⟩

/-- The next step runs the placed instruction. -/
theorem test_placed_word_runs :
    stepsWith (State.reset.withFetchWord 16 0x423E) (fun t => t.reg .a = 0x42 ∧ t.pc = 0x0102) = true := by decide

/-- The check value of V1: the entries of the default table sum to 1653. -/
theorem test_cycle_table_sum : defaultCyc.toList.sum = 1653 := by decide +kernel


/-! ### Data transfer: the vectors of `95_test_vectors.md`, part 2, under their ids -/

/-- T1: MOV B,C. -/
theorem test_t1 :
    stepsWith ({ start .console 0x0100 [(0x0100, 0x41)] with regs := { noRegs with b := 0x12, c := 0x34 } })
    (fun t => t.reg .b = 0x34 ∧ t.reg .c = 0x34 ∧ t.pc = 0x0101) = true := by decide

/-- T2: MOV A,M mirror read. -/
theorem test_t2 :
    stepsWith ({ start .arcade 0x0000 [(0x0000, 0x7E), (0x2100, 0x5A)] with regs := { noRegs with h := 0x41, l := 0x00 } })
    (fun t => t.reg .a = 0x5A) = true := by decide

/-- T3: MOV M,A into ROM (dropped). -/
theorem test_t3 :
    stepsWith ({ start .arcade 0x0000 [(0x0000, 0x77), (0x0010, 0x11)] with regs := { noRegs with h := 0x00, l := 0x10, a := 0xFF } })
    (fun t => t.store.read 0x0010 = 0x11 ∧ t.pc = 0x0001) = true := by decide

/-- T5: MOV L,M (HL changes after read). -/
theorem test_t5 :
    stepsWith ({ start .console 0x0100 [(0x0100, 0x6E), (0x2100, 0x07)] with regs := { noRegs with h := 0x21, l := 0x00 } })
    (fun t => t.pair .hl = 0x2107) = true := by decide

/-- T6: MVI M,0x80. -/
theorem test_t6 :
    stepsWith ({ start .console 0x0100 [(0x0100, 0x36), (0x0101, 0x80)] with regs := { noRegs with h := 0x24, l := 0x00 } })
    (fun t => t.store.read 0x2400 = 0x80 ∧ t.pc = 0x0102) = true := by decide

/-- T7: LXI SP,0x2400. -/
theorem test_t7 :
    stepsWith (start .console 0x0100 [(0x0100, 0x31), (0x0102, 0x24)])
    (fun t => t.sp = 0x2400 ∧ t.pc = 0x0103) = true := by decide

/-- T8: LDAX D. -/
theorem test_t8 :
    stepsWith ({ start .console 0x0100 [(0x0100, 0x1A), (0x2001, 0x7F)] with regs := { noRegs with d := 0x20, e := 0x01 } })
    (fun t => t.reg .a = 0x7F) = true := by decide

/-- T9: STAX B. -/
theorem test_t9 :
    stepsWith ({ start .console 0x0100 [(0x0100, 0x02)] with regs := { noRegs with b := 0x20, c := 0x02, a := 0x11 } })
    (fun t => t.store.read 0x2002 = 0x11) = true := by decide

/-- T10: LHLD 0xFFFF (wraps). -/
theorem test_t10 :
    stepsWith (start .console 0x0100 [(0x0000, 0xAB), (0x0100, 0x2A), (0x0101, 0xFF), (0x0102, 0xFF), (0xFFFF, 0xCD)])
    (fun t => t.pair .hl = 0xABCD) = true := by decide

/-- T11: SHLD 0x1FFF arcade (half dropped). -/
theorem test_t11 :
    stepsWith ({ start .arcade 0x0000 [(0x0000, 0x22), (0x0001, 0xFF), (0x0002, 0x1F)] with regs := { noRegs with h := 0xAB, l := 0xCD } })
    (fun t => t.store.read 0x1FFF = 0x00 ∧ t.store.read 0x2000 = 0xAB) = true := by decide

/-- T12: XCHG. -/
theorem test_t12 :
    stepsWith ({ start .console 0x0100 [(0x0100, 0xEB)] with regs := { noRegs with d := 0x11, e := 0x22, h := 0x33, l := 0x44 } })
    (fun t => t.pair .de = 0x3344 ∧ t.pair .hl = 0x1122) = true := by decide

/-- T13: XTHL. -/
theorem test_t13 :
    stepsWith ({ start .console 0x0100 [(0x0100, 0xE3), (0x23FE, 0x78), (0x23FF, 0x56)] with sp := 0x23FE, regs := { noRegs with h := 0x12, l := 0x34 } })
    (fun t => t.pair .hl = 0x5678 ∧ t.store.read 0x23FE = 0x34 ∧ t.store.read 0x23FF = 0x12 ∧ t.sp = 0x23FE) = true := by decide

/-- T14: LDA 0x4400 arcade (unmapped). -/
theorem test_t14 :
    faultsWith (start .arcade 0x0000 [(0x0000, 0x3A), (0x0002, 0x44)]) (.unmappedRead 0x4400) = true := by decide

/-- T15: STA 0x4400 arcade (dropped, no fault). -/
theorem test_t15 :
    stepsWith ({ start .arcade 0x0000 [(0x0000, 0x32), (0x0002, 0x44)] with regs := { noRegs with a := 0x01 } })
    (fun t => t.pc = 0x0003) = true := by decide

/-! ### Arithmetic: the vectors of `95_test_vectors.md`, part 2, under their ids -/

/-- A1: ADD B. -/
theorem test_a1 :
    stepsWith ({ start .console 0x0100 [(0x0100, 0x80)] with regs := { noRegs with a := 0x0F, b := 0x01 } })
    (fun t => t.reg .a = 0x10 ∧ t.flags = ⟨false, false, false, false, true⟩) = true := by decide

/-- A3: ADC B. -/
theorem test_a3 :
    stepsWith ({ start .console 0x0100 [(0x0100, 0x88)] with regs := { noRegs with a := 0xFF, b := 0x00 }, flags := { noFlags with cy := true } })
    (fun t => t.reg .a = 0x00 ∧ t.flags = ⟨true, false, true, true, true⟩) = true := by decide

/-- A4: ADI 0x80. -/
theorem test_a4 :
    stepsWith ({ start .console 0x0100 [(0x0100, 0xC6), (0x0101, 0x80)] with regs := { noRegs with a := 0x80 } })
    (fun t => t.reg .a = 0x00 ∧ t.flags = ⟨true, false, true, true, false⟩) = true := by decide

/-- A5: ACI 0x42. -/
theorem test_a5 :
    stepsWith ({ start .console 0x0100 [(0x0100, 0xCE), (0x0101, 0x42)] with regs := { noRegs with a := 0x14 }, flags := { noFlags with cy := true } })
    (fun t => t.reg .a = 0x57 ∧ t.flags = ⟨false, false, false, false, false⟩) = true := by decide

/-- A6: SUB B. -/
theorem test_a6 :
    stepsWith ({ start .console 0x0100 [(0x0100, 0x90)] with regs := { noRegs with a := 0x00, b := 0x01 } })
    (fun t => t.reg .a = 0xFF ∧ t.flags = ⟨false, true, true, true, false⟩) = true := by decide

/-- A8: SBB B. -/
theorem test_a8 :
    stepsWith ({ start .console 0x0100 [(0x0100, 0x98)] with regs := { noRegs with a := 0x04, b := 0x02 }, flags := { noFlags with cy := true } })
    (fun t => t.reg .a = 0x01 ∧ t.flags = ⟨false, false, false, false, true⟩) = true := by decide

/-- A10: SUI 0x01. -/
theorem test_a10 :
    stepsWith ({ start .console 0x0100 [(0x0100, 0xD6), (0x0101, 0x01)] with regs := { noRegs with a := 0x00 } })
    (fun t => t.reg .a = 0xFF ∧ t.flags = ⟨false, true, true, true, false⟩) = true := by decide

/-- A11: SBI 0x01. -/
theorem test_a11 :
    stepsWith ({ start .console 0x0100 [(0x0100, 0xDE), (0x0101, 0x01)] with regs := { noRegs with a := 0x00 }, flags := { noFlags with cy := true } })
    (fun t => t.reg .a = 0xFE ∧ t.flags = ⟨false, true, false, true, false⟩) = true := by decide

/-- A12: CMP B (A<B). -/
theorem test_a12 :
    stepsWith ({ start .console 0x0100 [(0x0100, 0xB8)] with regs := { noRegs with a := 0x02, b := 0x05 } })
    (fun t => t.reg .a = 0x02 ∧ t.flags = ⟨false, true, false, true, false⟩) = true := by decide

/-- A14: CPI 0x40. -/
theorem test_a14 :
    stepsWith ({ start .console 0x0100 [(0x0100, 0xFE), (0x0101, 0x40)] with regs := { noRegs with a := 0x4A } })
    (fun t => t.reg .a = 0x4A ∧ t.flags = ⟨false, false, true, false, true⟩) = true := by decide

/-- A15: INR B 0xFF, CY kept. -/
theorem test_a15 :
    stepsWith ({ start .console 0x0100 [(0x0100, 0x04)] with regs := { noRegs with b := 0xFF }, flags := { noFlags with cy := true } })
    (fun t => t.reg .b = 0x00 ∧ t.flags = ⟨true, false, true, true, true⟩) = true := by decide

/-- A16: DCR B 0x00, CY kept. -/
theorem test_a16 :
    stepsWith ({ start .console 0x0100 [(0x0100, 0x05)] with regs := { noRegs with b := 0x00 }, flags := { noFlags with cy := true } })
    (fun t => t.reg .b = 0xFF ∧ t.flags = ⟨false, true, true, true, false⟩) = true := by decide

/-- A18: INR M in ROM arcade (write dropped, flags set). -/
theorem test_a18 :
    stepsWith ({ start .arcade 0x0000 [(0x0000, 0x34), (0x0050, 0x0F)] with regs := { noRegs with h := 0x00, l := 0x50 } })
    (fun t => t.store.read 0x0050 = 0x0F ∧ t.flags = ⟨false, false, false, false, true⟩) = true := by decide

/-- A19: INX H 0xFFFF. -/
theorem test_a19 :
    stepsWith ({ start .console 0x0100 [(0x0100, 0x23)] with regs := { noRegs with h := 0xFF, l := 0xFF } })
    (fun t => t.pair .hl = 0x0000 ∧ t.flags = ⟨false, false, false, false, false⟩) = true := by decide

/-- A20: DCX B 0x0000. -/
theorem test_a20 :
    stepsWith ({ start .console 0x0100 [(0x0100, 0x0B)] with regs := { noRegs with b := 0x00, c := 0x00 } })
    (fun t => t.pair .bc = 0xFFFF ∧ t.flags = ⟨false, false, false, false, false⟩) = true := by decide

/-- A21: DAD B. -/
theorem test_a21 :
    stepsWith ({ start .console 0x0100 [(0x0100, 0x09)] with regs := { noRegs with b := 0x33, c := 0x9F, h := 0xA1, l := 0x7B } })
    (fun t => t.pair .hl = 0xD51A ∧ t.flags = ⟨false, false, false, false, false⟩) = true := by decide

/-- A23: DAD SP. -/
theorem test_a23 :
    stepsWith ({ start .console 0x0100 [(0x0100, 0x39)] with sp := 0xFFFF, regs := { noRegs with h := 0x00, l := 0x01 } })
    (fun t => t.pair .hl = 0x0000 ∧ t.sp = 0xFFFF ∧ t.flags = ⟨false, false, false, true, false⟩) = true := by decide

/-- A24: DAA 0x9A. -/
theorem test_a24 :
    stepsWith ({ start .console 0x0100 [(0x0100, 0x27)] with regs := { noRegs with a := 0x9A } })
    (fun t => t.reg .a = 0x00 ∧ t.flags = ⟨true, false, true, true, true⟩) = true := by decide

/-- A26: DAA AC=1 low nibble small. -/
theorem test_a26 :
    stepsWith ({ start .console 0x0100 [(0x0100, 0x27)] with regs := { noRegs with a := 0x12 }, flags := { noFlags with ac := true } })
    (fun t => t.reg .a = 0x18 ∧ t.flags = ⟨false, false, true, false, false⟩) = true := by decide

/-- A27: DAA CY=1 in. -/
theorem test_a27 :
    stepsWith ({ start .console 0x0100 [(0x0100, 0x27)] with regs := { noRegs with a := 0x12 }, flags := { noFlags with cy := true } })
    (fun t => t.reg .a = 0x72 ∧ t.flags = ⟨false, false, true, true, false⟩) = true := by decide

/-! ### Logical: the vectors of `95_test_vectors.md`, part 2, under their ids -/

/-- L1: ANA B clears CY and AC. -/
theorem test_l1 :
    stepsWith ({ start .console 0x0100 [(0x0100, 0xA0)] with regs := { noRegs with a := 0xFC, b := 0x0F }, flags := { noFlags with cy := true, ac := true } })
    (fun t => t.reg .a = 0x0C ∧ t.flags = ⟨false, false, true, false, false⟩) = true := by decide

/-- L3: XRA A. -/
theorem test_l3 :
    stepsWith ({ start .console 0x0100 [(0x0100, 0xAF)] with regs := { noRegs with a := 0x5C }, flags := { noFlags with cy := true, ac := true } })
    (fun t => t.reg .a = 0x00 ∧ t.flags = ⟨true, false, true, false, false⟩) = true := by decide

/-- L5: ORA M zero. -/
theorem test_l5 :
    stepsWith ({ start .console 0x0100 [(0x0100, 0xB6)] with regs := { noRegs with a := 0x00, h := 0x20, l := 0x00 } })
    (fun t => t.reg .a = 0x00 ∧ t.flags = ⟨true, false, true, false, false⟩) = true := by decide

/-- L6: ANI 0x0F. -/
theorem test_l6 :
    stepsWith ({ start .console 0x0100 [(0x0100, 0xE6), (0x0101, 0x0F)] with regs := { noRegs with a := 0x3A } })
    (fun t => t.reg .a = 0x0A ∧ t.flags = ⟨false, false, true, false, false⟩) = true := by decide

/-- L7: XRI 0x81. -/
theorem test_l7 :
    stepsWith ({ start .console 0x0100 [(0x0100, 0xEE), (0x0101, 0x81)] with regs := { noRegs with a := 0x3B } })
    (fun t => t.reg .a = 0xBA ∧ t.flags = ⟨false, true, false, false, false⟩) = true := by decide

/-- L8: ORI 0x0F. -/
theorem test_l8 :
    stepsWith ({ start .console 0x0100 [(0x0100, 0xF6), (0x0101, 0x0F)] with regs := { noRegs with a := 0xB5 } })
    (fun t => t.reg .a = 0xBF ∧ t.flags = ⟨false, true, false, false, false⟩) = true := by decide

/-- L9: CMA. -/
theorem test_l9 :
    stepsWith ({ start .console 0x0100 [(0x0100, 0x2F)] with regs := { noRegs with a := 0x51 } })
    (fun t => t.reg .a = 0xAE ∧ t.flags = ⟨false, false, false, false, false⟩) = true := by decide

/-- L10: STC. -/
theorem test_l10 :
    stepsWith (start .console 0x0100 [(0x0100, 0x37)])
    (fun t => t.flags = ⟨false, false, false, true, false⟩) = true := by decide

/-- L11: CMC. -/
theorem test_l11 :
    stepsWith ({ start .console 0x0100 [(0x0100, 0x3F)] with flags := { noFlags with cy := true } })
    (fun t => t.flags = ⟨false, false, false, false, false⟩) = true := by decide

/-- L12: RLC. -/
theorem test_l12 :
    stepsWith ({ start .console 0x0100 [(0x0100, 0x07)] with regs := { noRegs with a := 0xF2 } })
    (fun t => t.reg .a = 0xE5 ∧ t.flags = ⟨false, false, false, true, false⟩) = true := by decide

/-- L13: RRC. -/
theorem test_l13 :
    stepsWith ({ start .console 0x0100 [(0x0100, 0x0F)] with regs := { noRegs with a := 0x01 } })
    (fun t => t.reg .a = 0x80 ∧ t.flags = ⟨false, false, false, true, false⟩) = true := by decide

/-- L14: RAL. -/
theorem test_l14 :
    stepsWith ({ start .console 0x0100 [(0x0100, 0x17)] with regs := { noRegs with a := 0xB5 } })
    (fun t => t.reg .a = 0x6A ∧ t.flags = ⟨false, false, false, true, false⟩) = true := by decide

/-- L15: RAR. -/
theorem test_l15 :
    stepsWith ({ start .console 0x0100 [(0x0100, 0x1F)] with regs := { noRegs with a := 0x6A }, flags := { noFlags with cy := true } })
    (fun t => t.reg .a = 0xB5 ∧ t.flags = ⟨false, false, false, false, false⟩) = true := by decide

/-! ### Control transfer: the vectors of `95_test_vectors.md`, part 2, under their ids -/

/-- J1: JMP 0x2000. -/
theorem test_j1 :
    stepsWith (start .console 0x0100 [(0x0100, 0xC3), (0x0102, 0x20)])
    (fun t => t.pc = 0x2000) = true := by decide

/-- J2: JNZ taken. -/
theorem test_j2 :
    stepsWith (start .console 0x0105 [(0x0105, 0xC2), (0x0106, 0x02), (0x0107, 0x01)])
    (fun t => t.pc = 0x0102 ∧ t.clockCount = 10) = true := by decide +kernel

/-- J3: JNZ not taken. -/
theorem test_j3 :
    stepsWith ({ start .console 0x0105 [(0x0105, 0xC2), (0x0106, 0x02), (0x0107, 0x01)] with flags := { noFlags with z := true } })
    (fun t => t.pc = 0x0108 ∧ t.clockCount = 10) = true := by decide +kernel

/-- J4: CALL 0x0300. -/
theorem test_j4 :
    stepsWith ({ start .console 0x0010 [(0x0010, 0xCD), (0x0012, 0x03)] with sp := 0x2400 })
    (fun t => t.pc = 0x0300 ∧ t.sp = 0x23FE ∧ t.store.read 0x23FE = 0x13 ∧ t.store.read 0x23FF = 0x00 ∧ t.clockCount = 17) = true := by decide +kernel

/-- J5: CC taken. -/
theorem test_j5 :
    stepsWith ({ start .console 0x0200 [(0x0200, 0xDC), (0x0201, 0x50), (0x0202, 0x02)] with sp := 0x2400, flags := { noFlags with cy := true } })
    (fun t => t.pc = 0x0250 ∧ t.sp = 0x23FE ∧ t.store.read 0x23FE = 0x03 ∧ t.store.read 0x23FF = 0x02 ∧ t.clockCount = 17) = true := by decide +kernel

/-- J6: CC not taken. -/
theorem test_j6 :
    stepsWith ({ start .console 0x0200 [(0x0200, 0xDC), (0x0201, 0x50), (0x0202, 0x02)] with sp := 0x2400 })
    (fun t => t.pc = 0x0203 ∧ t.sp = 0x2400 ∧ t.clockCount = 11) = true := by decide +kernel

/-- J8: RZ taken. -/
theorem test_j8 :
    stepsWith ({ start .console 0x0100 [(0x0100, 0xC8), (0x23FE, 0x13)] with sp := 0x23FE, flags := { noFlags with z := true } })
    (fun t => t.pc = 0x0013 ∧ t.sp = 0x2400 ∧ t.clockCount = 11) = true := by decide +kernel

/-- J9: RZ not taken. -/
theorem test_j9 :
    stepsWith ({ start .console 0x0100 [(0x0100, 0xC8), (0x23FE, 0x13)] with sp := 0x23FE })
    (fun t => t.pc = 0x0101 ∧ t.sp = 0x23FE ∧ t.clockCount = 5) = true := by decide +kernel

/-- J10: RST 2. -/
theorem test_j10 :
    stepsWith ({ start .console 0x1234 [(0x1234, 0xD7)] with sp := 0x2400 })
    (fun t => t.pc = 0x0010 ∧ t.sp = 0x23FE ∧ t.store.read 0x23FE = 0x35 ∧ t.store.read 0x23FF = 0x12) = true := by decide

/-- J12: PCHL. -/
theorem test_j12 :
    stepsWith ({ start .console 0x0100 [(0x0100, 0xE9)] with regs := { noRegs with h := 0x41, l := 0x3E } })
    (fun t => t.pc = 0x413E) = true := by decide

/-- J13: RET alias 0xD9. -/
theorem test_j13 :
    stepsWith ({ start .console 0x0100 [(0x0100, 0xD9), (0x23FE, 0x13)] with sp := 0x23FE })
    (fun t => t.pc = 0x0013 ∧ t.sp = 0x2400 ∧ t.clockCount = 10) = true := by decide +kernel

/-- J14: CALL with SP=0 arcade (push dropped). -/
theorem test_j14 :
    stepsWith ({ start .arcade 0x0010 [(0x0010, 0xCD), (0x0012, 0x03)] with sp := 0x0000 })
    (fun t => t.pc = 0x0300 ∧ t.sp = 0xFFFE) = true := by decide

/-- J15: JPE taken (P=1). -/
theorem test_j15 :
    stepsWith ({ start .console 0x0100 [(0x0100, 0xEA), (0x0102, 0x30)] with flags := { noFlags with p := true } })
    (fun t => t.pc = 0x3000) = true := by decide

/-- J16: JM not taken (S=0). -/
theorem test_j16 :
    stepsWith (start .console 0x0100 [(0x0100, 0xFA), (0x0102, 0x30)])
    (fun t => t.pc = 0x0103) = true := by decide

/-! ### Stack, ports and machine control: the vectors of `95_test_vectors.md`, part 2, under their ids -/

/-- S1: PUSH B. -/
theorem test_s1 :
    stepsWith ({ start .console 0x0100 [(0x0100, 0xC5)] with sp := 0x2400, regs := { noRegs with b := 0x12, c := 0x34 } })
    (fun t => t.sp = 0x23FE ∧ t.store.read 0x23FE = 0x34 ∧ t.store.read 0x23FF = 0x12) = true := by decide

/-- S2: PUSH PSW. -/
theorem test_s2 :
    stepsWith ({ start .console 0x0100 [(0x0100, 0xF5)] with sp := 0x2400, regs := { noRegs with a := 0x1F }, flags := { noFlags with cy := true, z := true, p := true } })
    (fun t => t.sp = 0x23FE ∧ t.store.read 0x23FE = 0x47 ∧ t.store.read 0x23FF = 0x1F) = true := by decide

/-- S5: POP H. -/
theorem test_s5 :
    stepsWith ({ start .console 0x0100 [(0x0100, 0xE1), (0x23FE, 0x3D), (0x23FF, 0x93)] with sp := 0x23FE })
    (fun t => t.pair .hl = 0x933D ∧ t.sp = 0x2400) = true := by decide

/-- S6: POP PSW 0xFFC3. -/
theorem test_s6 :
    stepsWith ({ start .console 0x0100 [(0x0100, 0xF1), (0x2C00, 0xC3), (0x2C01, 0xFF)] with sp := 0x2C00 })
    (fun t => t.reg .a = 0xFF ∧ t.flags = ⟨true, true, false, true, false⟩ ∧ t.sp = 0x2C02) = true := by decide

/-- S7: POP PSW 0xFF in flag byte. -/
theorem test_s7 :
    stepsWith ({ start .console 0x0100 [(0x0100, 0xF1), (0x2C00, 0xFF)] with sp := 0x2C00 })
    (fun t => t.reg .a = 0x00 ∧ t.flags = ⟨true, true, true, true, true⟩) = true := by decide

/-- S9: PUSH B SP=0x0001 wraps. -/
theorem test_s9 :
    stepsWith ({ start .console 0x0100 [(0x0100, 0xC5)] with sp := 0x0001, regs := { noRegs with b := 0x12, c := 0x34 } })
    (fun t => t.sp = 0xFFFF ∧ t.store.read 0xFFFF = 0x34 ∧ t.store.read 0x0000 = 0x12) = true := by decide

/-- S10: SPHL. -/
theorem test_s10 :
    stepsWith ({ start .console 0x0100 [(0x0100, 0xF9)] with regs := { noRegs with h := 0x50, l := 0x6C } })
    (fun t => t.sp = 0x506C) = true := by decide

/-- S11: EI. -/
theorem test_s11 :
    stepsWith (start .console 0x0100 [(0x0100, 0xFB)])
    (fun t => t.ie = true) = true := by decide

/-- S12: DI. -/
theorem test_s12 :
    stepsWith ({ start .console 0x0100 [(0x0100, 0xF3)] with ie := true })
    (fun t => t.ie = false) = true := by decide

/-- S13: IN 1. -/
theorem test_s13 :
    stepsWith ({ start .console 0x0100 [(0x0100, 0xDB), (0x0101, 0x01)] with inPort := #v[0x00, 0x81, 0x00, 0x00] })
    (fun t => t.reg .a = 0x81) = true := by decide

/-- S15: IN 3 ofs 7. -/
theorem test_s15 :
    stepsWith ({ start .console 0x0100 [(0x0100, 0xDB), (0x0101, 0x03)] with shiftReg := 0x55AA, shiftOfs := 7 })
    (fun t => t.reg .a = 0xD5) = true := by decide

/-- S16: IN 4. -/
theorem test_s16 :
    faultsWith (start .console 0x0100 [(0x0100, 0xDB), (0x0101, 0x04)]) (.portRange .input 0x04) = true := by decide

/-- S17: OUT 3. -/
theorem test_s17 :
    stepsWith ({ start .console 0x0100 [(0x0100, 0xD3), (0x0101, 0x03)] with regs := { noRegs with a := 0x0F } })
    (fun t => t.outPort = #v[0x00, 0x00, 0x00, 0x0F, 0x00, 0x00, 0x00]) = true := by decide

/-- S18: OUT 2. -/
theorem test_s18 :
    stepsWith ({ start .console 0x0100 [(0x0100, 0xD3), (0x0101, 0x02)] with regs := { noRegs with a := 0xFC } })
    (fun t => t.shiftOfs = 4 ∧ t.outPort = #v[0x00, 0x00, 0x00, 0x00, 0x00, 0x00, 0x00]) = true := by decide

/-- S19: OUT 4. -/
theorem test_s19 :
    stepsWith ({ start .console 0x0100 [(0x0100, 0xD3), (0x0101, 0x04)] with shiftReg := 0xAA00, regs := { noRegs with a := 0x55 } })
    (fun t => t.shiftReg = 0x55AA ∧ t.outPort = #v[0x00, 0x00, 0x00, 0x00, 0x00, 0x00, 0x00]) = true := by decide

/-- S20: OUT 7. -/
theorem test_s20 :
    faultsWith (start .console 0x0100 [(0x0100, 0xD3), (0x0101, 0x07)]) (.portRange .output 0x07) = true := by decide

/-- S22: NOP alias 0x38. -/
theorem test_s22 :
    stepsWith (start .console 0x0100 [(0x0100, 0x38)])
    (fun t => t.pc = 0x0101 ∧ t.clockCount = 4 ∧ t.instructionCount = 1 ∧ t.diagnostics = []) = true := by decide +kernel

/-- S23: HLT. -/
theorem test_s23 :
    stepsWith (start .console 0x0110 [(0x0110, 0x76)])
    (fun t => t.pc = 0x0111 ∧ t.halted = true ∧ t.clockCount = 7 ∧ t.instructionCount = 1) = true := by decide +kernel

/-- S24: undefined 0xED. -/
theorem test_s24 :
    stepsWith (start .console 0x0100 [(0x0100, 0xED), (0x0101, 0x34), (0x0102, 0x12)])
    (fun t => t.pc = 0x0101 ∧ t.halted = false ∧ t.clockCount = 17 ∧ t.instructionCount = 1 ∧ t.diagnostics = [.unknownOpcode 0xED]) = true := by decide +kernel

/-! ### Events: the vectors of `95_test_vectors.md`, part 3 -/

/-- E1: a delivered interrupt. -/
theorem test_e1 :
    nextWith (perform (.interrupt 1) { start .arcade 0x1A35 [] with ie := true, sp := 0x2400 })
      (fun t => t.ie = false ∧ t.sp = 0x23FE ∧ t.store.read 0x23FE = 0x35 ∧ t.store.read 0x23FF = 0x1A ∧
        t.pc = 0x0010 ∧ t.clockCount = 15 ∧ t.instructionCount = 0) = true := by decide +kernel

/-- E3: a request while IE is 0 changes nothing. -/
theorem test_e3 :
    nextWith (perform (.interrupt 1) { start .arcade 0x1A35 [] with sp := 0x2400 })
      (fun t => t = { start .arcade 0x1A35 [] with sp := 0x2400 }) = true := by decide +kernel

/-- E5: an interrupt does not wake a halted machine. -/
theorem test_e5 :
    nextWith (perform (.interrupt 0) { start .console 0x0111 [] with ie := true, sp := 0x2400, halted := true })
      (fun t => t.pc = 0x0008 ∧ t.store.read 0x23FE = 0x11 ∧ t.halted = true ∧ stepsWith t (fun u => u = t)) = true := by
  decide +kernel

/-- E7: the print-character call, then the `RET` at 0x0005. -/
theorem test_e7 :
    stepsWith { start .console 0x0005 [(0x0005, 0xC9), (0x2000, 0x0B), (0x2001, 0x01)] with
        sp := 0x2000, regs := { noRegs with c := 0x02, e := 0x41 } }
      (fun t => t.consoleOut = [0x41] ∧ t.pc = 0x010B ∧ t.sp = 0x2002 ∧ t.instructionCount = 1 ∧ t.clockCount = 10)
      = true := by decide +kernel

/-- E8: the print-string call, then the `NOP` of untouched memory. -/
theorem test_e8 :
    stepsWith { start .console 0x0005 [(0x0120, 0x48), (0x0121, 0x49), (0x0122, 0x24)] with
        regs := { noRegs with c := 0x09, d := 0x01, e := 0x20 } }
      (fun t => t.consoleOut = [0x48, 0x49] ∧ t.pc = 0x0006 ∧ t.instructionCount = 1 ∧ t.clockCount = 4) = true := by
  decide +kernel

/-- E10: another selector prints nothing. -/
theorem test_e10 :
    stepsWith { start .console 0x0005 [] with regs := { noRegs with c := 0x05, e := 0x41 } }
      (fun t => t.consoleOut = [] ∧ t.pc = 0x0006) = true := by decide +kernel

/-- E11: no trap in arcade mode. -/
theorem test_e11 :
    stepsWith { start .arcade 0x0005 [] with regs := { noRegs with c := 0x02, e := 0x41 } }
      (fun t => t.consoleOut = [] ∧ t.pc = 0x0006) = true := by decide +kernel

/-- E12: the scan wraps at the top of memory. -/
theorem test_e12 :
    stepsWith { start .console 0x0005 [(0x0000, 0x42), (0x0001, 0x24), (0xFFFF, 0x41)] with
        regs := { noRegs with c := 0x09, d := 0xFF, e := 0xFF } }
      (fun t => t.consoleOut = [0x41, 0x42]) = true := by decide +kernel

/-- E14, second step: the exit trap. -/
theorem test_e14 :
    stepsWith (start .console 0x0000 [(0x0000, 0x3C)])
      (fun t => t.halted = true ∧ t.pc = 0x0000 ∧ t.reg .a = 0 ∧ t.clockCount = 0 ∧ t.instructionCount = 0) = true := by
  decide +kernel

/-- E15: the operand fetch wraps. -/
theorem test_e15 :
    stepsWith (start .console 0xFFFE [(0x0000, 0x12), (0xFFFE, 0xC3), (0xFFFF, 0x34)]) (fun t => t.pc = 0x1234) = true := by
  decide

/-- E16: an opcode fetched through the mirror. -/
theorem test_e16 : stepsWith (start .arcade 0x4000 [(0x2000, 0x3C)]) (fun t => t.reg .a = 0x01 ∧ t.pc = 0x4001) = true := by
  decide

/-- E17: an opcode fetch at an unmapped address. -/
theorem test_e17 : faultsWith (start .arcade 0x4400 []) (.unmappedRead 0x4400) = true := by decide

/-- E18: an operand fetch at an unmapped address. -/
theorem test_e18 : faultsWith (start .arcade 0x43FF [(0x23FF, 0x3E)]) (.unmappedRead 0x4400) = true := by decide

/-- V6c: the one writable address of the mirror window. -/
theorem test_v6c :
    (writeByte 0x4000 0x99 (start .arcade 0 [])).store = [(0x2000, 0x99)] ∧
      (writeByte 0x4001 0x99 (start .arcade 0 [])).store = [] := by decide

/-- R72: a `Load` past the end of the store, or above the one-to-one region in arcade mode, is refused. -/
theorem test_load_refused :
    refusesWith (start .console 0 []) (.load 0xFFFF [1, 2]) (.loadOutOfRange 0xFFFF 2) = true ∧
      refusesWith (start .arcade 0 []) (.load 0x3FFF [1, 2]) (.loadOutOfRange 0x3FFF 2) = true := by decide +kernel

/-- R72: `Load` reaches the cells that the CPU cannot write. -/
theorem test_load_reaches_rom :
    nextWith (perform (.load 0x1FFF [0x01, 0x00, 0x02]) (start .arcade 0 [(0x2000, 0x07)]))
      (fun t => t.store = [(0x1FFF, 0x01), (0x2001, 0x02)]) = true := by decide +kernel

/-- R73: the video view is the 7168 cells from 0x2400. -/
theorem test_video_view :
    (videoView (start .arcade 0 [(0x23FF, 0x01), (0x2400, 0x02), (0x3FFF, 0x03)])).headD 0 = 0x02 ∧
      (videoView (start .arcade 0 [(0x23FF, 0x01), (0x2400, 0x02), (0x3FFF, 0x03)])).getLastD 0 = 0x03 := by decide +kernel

/-! ### Witnesses: a state and operands that meet the hypotheses of each statement -/

/-- Nothing but `0x00` anywhere: `NOP` at PC. -/
def nopAt (mode : Mode) (pc : Word) : State := start mode pc []

theorem fetchesNop (mode : Mode) (pc : Word) (h : resolve mode pc ≠ none) : FetchesAt (nopAt mode pc) .nop := by
  refine ⟨[0x00], rfl, fun k hk => ?_⟩
  obtain rfl : k = 0 := by simpa using hk
  have hpc : pc + BitVec.ofNat 16 0 = pc := by simp
  show readByte (nopAt mode pc) (pc + BitVec.ofNat 16 0) = _
  rw [hpc]
  unfold readByte
  cases hr : resolve mode pc with
  | none => exact absurd hr h
  | some c =>
    show (match resolve mode pc with
      | some c => Except.ok (Memory.read [] c)
      | none => Except.error (Fault.unmappedRead pc)) = _
    rw [hr]
    rfl

theorem witness_DecodedBytesAreTheEncoding : decode [0xC3, 0x00, 0x20, 0x76] = .ok (.jmp 0x2000, [0x76]) := by rfl

theorem witness_StepRunsTheDecodedInstruction : PlainStep (nopAt .console 0x0100) ∧ FetchesAt (nopAt .console 0x0100) .nop :=
  ⟨⟨rfl, rfl, rfl⟩, fetchesNop _ _ (by decide)⟩

/-- The call trap with the three kinds of selector, the boundary values 1, 3, 8 and 10 among those that do nothing. -/
theorem witness_CallTrapServesThenRuns :
    (nopAt .console 5).halted = false ∧ (nopAt .console 5).config.mode = .console ∧ (nopAt .console 5).pc = 5 ∧
      FetchesAt (nopAt .console 5) .nop ∧ ((nopAt .console 5).setReg .c 2).reg .c = 2 ∧
        ((nopAt .console 5).setReg .c 9).reg .c = 9 ∧
          ∀ v ∈ [1, 3, 8, 10], ((nopAt .console 5).setReg .c v).reg .c ≠ 2 ∧ ((nopAt .console 5).setReg .c v).reg .c ≠ 9 :=
  ⟨rfl, rfl, rfl, fetchesNop _ _ (by decide), rfl, rfl, by decide⟩

/-- The empty string at DE, and one of one byte. -/
theorem witness_CallTrapServesThenRuns_string :
    StringAtDe (start .console 5 [(0x0000, 0x24)]) [] ∧ StringAtDe (start .console 5 [(0x0000, 0x41), (0x0001, 0x24)]) [0x41] := by
  refine ⟨⟨by decide, fun k hk => absurd hk (by simp), rfl⟩, by decide, fun k hk => ?_, rfl⟩
  obtain rfl : k = 0 := by simpa using hk
  exact ⟨rfl, (by decide : (0x41 : Byte) ≠ 0x24)⟩

theorem witness_UnterminatedStringIsRefused :
    ((nopAt .console 5).setReg .c 9).halted = false ∧ ((nopAt .console 5).setReg .c 9).config.mode = .console ∧
      ((nopAt .console 5).setReg .c 9).pc = 5 ∧ ((nopAt .console 5).setReg .c 9).reg .c = 9 ∧
        ∀ a : Word, readByte ((nopAt .console 5).setReg .c 9) a ≠ .ok 0x24 :=
  ⟨rfl, rfl, rfl, rfl, fun _ h => absurd (Except.ok.inj h) (by decide : (0x00 : Byte) ≠ 0x24)⟩

theorem witness_HaltedIsEnteredAndNeverLeft :
    ((nopAt .console 0).halted = false ∧ (nopAt .console 0).config.mode = .console ∧ (nopAt .console 0).pc = 0) ∧
      ((nopAt .console 0).setHalted true).halted = true ∧
        perform .resetClockCount ((nopAt .console 0).setHalted true) =
          .next (((nopAt .console 0).setHalted true).setClockCount 0) :=
  ⟨⟨rfl, rfl, rfl⟩, rfl, rfl⟩

theorem readByte_start {mode : Mode} {pc a : Word} {cells : Memory} {c : Nat} (h : resolve mode a = some c) :
    readByte (start mode pc cells) a = .ok (Memory.read cells c) := by
  unfold readByte
  rw [show resolve (start mode pc cells).config.mode a = some c from h]
  rfl

/-- The first unmapped address at each byte of the fetch, a fetch that just fits, and HL at the last mapped and the first
unmapped address. -/
theorem witness_UnmappedReadsStop :
    ((nopAt .arcade 0x4400).halted = false ∧ (nopAt .arcade 0x4400).config.mode = .arcade ∧
      ¬ CanRead (nopAt .arcade 0x4400) 0x4400) ∧
      (readByte (start .arcade 0x43FF [(0x23FF, 0x3E)]) 0x43FF = .ok 0x3E ∧ 2 ≤ lengthOf 0x3E ∧
        ¬ CanRead (start .arcade 0x43FF [(0x23FF, 0x3E)]) (0x43FF + 1)) ∧
        (readByte (start .arcade 0x43FE [(0x23FE, 0xC3)]) 0x43FE = .ok 0xC3 ∧ lengthOf 0xC3 = 3 ∧
          CanRead (start .arcade 0x43FE [(0x23FE, 0xC3)]) (0x43FE + 1) ∧
            ¬ CanRead (start .arcade 0x43FE [(0x23FE, 0xC3)]) (0x43FE + 2)) ∧
          (∀ k < lengthOf 0xC3, CanRead (start .arcade 0x43FD [(0x23FD, 0xC3)]) (0x43FD + BitVec.ofNat 16 k)) ∧
            CanRead ((nopAt .arcade 0).setPair .hl 0x43FF) ((nopAt .arcade 0).setPair .hl 0x43FF).hl ∧
              ¬ CanRead ((nopAt .arcade 0).setPair .hl 0x4400) ((nopAt .arcade 0).setPair .hl 0x4400).hl :=
  ⟨by decide, ⟨readByte_start (c := 0x23FF) (by decide), by decide, by decide⟩,
    ⟨readByte_start (c := 0x23FE) (by decide), by decide, by decide, by decide⟩, by decide, by decide, by decide⟩

/-- A step of `NOP`: the next state is the one after the fetch. -/
theorem nopSteps : StepsTo (nopAt .console 0x0100) (afterFetch .nop (nopAt .console 0x0100)) := by rfl

theorem witness_InstructionCountCountsFetches :
    StepsTo (nopAt .console 0x0100) (afterFetch .nop (nopAt .console 0x0100)) ∧
      StepsTo (nopAt .console 0) ((nopAt .console 0).setHalted true) ∧
        StepsTo ((nopAt .console 0).setHalted true) ((nopAt .console 0).setHalted true) :=
  ⟨nopSteps, rfl, rfl⟩

/-- `RNZ` after reset is taken (Z is 0); `NOP` is not a conditional transfer at all. -/
theorem witness_ClockCountFollowsTheTable :
    (PlainStep (start .console 0x0100 [(0x0100, 0xC0)]) ∧ FetchesAt (start .console 0x0100 [(0x0100, 0xC0)]) .rnz ∧
      (∃ t, StepsTo (start .console 0x0100 [(0x0100, 0xC0)]) t) ∧
        TakenConditional .rnz (start .console 0x0100 [(0x0100, 0xC0)])) ∧
      PlainStep (nopAt .console 0x0100) ∧ FetchesAt (nopAt .console 0x0100) .nop ∧
        StepsTo (nopAt .console 0x0100) (afterFetch .nop (nopAt .console 0x0100)) ∧
          ¬ TakenConditional .nop (nopAt .console 0x0100) := by
  refine ⟨⟨⟨rfl, rfl, rfl⟩, ⟨[0xC0], rfl, fun k hk => ?_⟩, ⟨_, rfl⟩, .nz, Or.inr rfl, rfl⟩, ⟨rfl, rfl, rfl⟩, fetchesNop _ _ (by decide),
    nopSteps, ?_⟩
  · obtain rfl : k = 0 := by simpa using hk
    rfl
  · rintro ⟨cc, ⟨a, h⟩ | h, -⟩ <;> cases cc <;> cases h

theorem witness_PcAdvancesByTheLength :
    PlainStep (nopAt .console 0x0100) ∧ FetchesAt (nopAt .console 0x0100) .nop ∧
      StepsTo (nopAt .console 0x0100) (afterFetch .nop (nopAt .console 0x0100)) ∧ ¬ IsControlTransfer .nop := by
  refine ⟨⟨rfl, rfl, rfl⟩, fetchesNop _ _ (by decide), nopSteps, ?_⟩
  rintro (⟨a, h⟩ | ⟨cc, a, h⟩ | ⟨a, h⟩ | ⟨cc, a, h⟩ | h | ⟨cc, h⟩ | ⟨n, h⟩ | h)
  · cases h
  · cases cc <;> cases h
  · cases h
  · cases cc <;> cases h
  · exact absurd h (by decide)
  · cases cc <;> cases h
  · revert n; decide
  · cases h

/-- Each form, at the last mapped address and the first unmapped one. -/
theorem witness_ByteLoadsReadMemory :
    (Instr.movBM = .movRM .b ∧ encode .movBM = [BitVec.ofNat 8 (0x46 + 8 * Reg8.b.code)]) ∧
      (Instr.ldaxB = .ldax .bc ∧ encode .ldaxB = [BitVec.ofNat 8 (0x0A + 16 * BcDe.bc.code)]) ∧
        encode (.lda 0x43FF) = [0x3A, lowByte 0x43FF, highByte 0x43FF] ∧ CanRead (nopAt .arcade 0) 0x43FF ∧
          ¬ CanRead (nopAt .arcade 0) 0x4400 := by decide

theorem witness_ByteStoresWriteMemory : (nopAt .arcade 0).Inv ∧ (start .console 0 [(0, 0x01), (0xFFFF, 0x01)]).Inv := by
  decide

/-- A word at the edge of the mapped addresses. -/
theorem witness_WordTransfersMoveHl :
    (nopAt .arcade 0).Inv ∧ CanReadWord (nopAt .arcade 0) 0x43FE ∧ ¬ CanRead (nopAt .arcade 0) 0x4400 ∧
      CanRead (nopAt .arcade 0) 0x43FF ∧ ¬ CanRead (nopAt .arcade 0) (0x43FF + 1) := by decide

theorem witness_XthlExchangesWithTheStack :
    (nopAt .arcade 0).Inv ∧ CanReadWord ((nopAt .arcade 0).setSp 0x43FE) 0x43FE ∧
      ¬ CanRead ((nopAt .arcade 0).setSp 0x4400) 0x4400 ∧
        CanRead ((nopAt .arcade 0).setSp 0x43FF) 0x43FF ∧ ¬ CanRead ((nopAt .arcade 0).setSp 0x43FF) (0x43FF + 1) := by
  decide

/-- A register, M and an immediate as source. -/
theorem aluSources (op : AluOp) :
    AluSource op (.alu op (.reg .b)) (nopAt .console 0) 0 ∧ AluSource op (.alu op .m) (nopAt .console 0) 0 ∧
      AluSource op (.aluImm op 0xFF) (nopAt .console 0) 0xFF :=
  ⟨Or.inl ⟨_, rfl, rfl⟩, Or.inl ⟨_, rfl, rfl⟩, Or.inr rfl⟩

theorem witness_AddInstructionsAdd :
    AluSource .add (.aluImm .add 0xFF) (nopAt .console 0) 0xFF ∧ AluSource .adc (.alu .adc .m) (nopAt .console 0) 0 :=
  ⟨(aluSources .add).2.2, (aluSources .adc).2.1⟩

theorem witness_SubtractInstructionsSubtract :
    AluSource .sub (.aluImm .sub 0xFF) (nopAt .console 0) 0xFF ∧ AluSource .sbb (.alu .sbb (.reg .b)) (nopAt .console 0) 0 :=
  ⟨(aluSources .sub).2.2, (aluSources .sbb).1⟩

theorem witness_CompareSetsFlagsOnly : AluSource .cmp (.alu .cmp .m) (nopAt .console 0) 0 := (aluSources .cmp).2.1

theorem witness_LogicalInstructionsClearCarries :
    (AluSource .ana (.aluImm .ana 0xFF) (nopAt .console 0) 0xFF ∧ (0x00 : Byte) = (nopAt .console 0).reg .a &&& 0xFF) ∧
      (AluSource .xra (.aluImm .xra 0xFF) (nopAt .console 0) 0xFF ∧ (0xFF : Byte) = (nopAt .console 0).reg .a ^^^ 0xFF) ∧
        AluSource .ora (.aluImm .ora 0xFF) (nopAt .console 0) 0xFF ∧ (0xFF : Byte) = (nopAt .console 0).reg .a ||| 0xFF :=
  ⟨⟨(aluSources .ana).2.2, by decide⟩, ⟨(aluSources .xra).2.2, by decide⟩, (aluSources .ora).2.2, by decide⟩

theorem witness_InrIncrementsAndKeepsCarry :
    (nopAt .console 0).Inv ∧ ((nopAt .console 0).setReg .b 0xFF).reg .b = 0xFF ∧
      readByte (start .console 1 [(0, 0xFF)]) (start .console 1 [(0, 0xFF)]).hl = .ok 0xFF :=
  ⟨by decide, rfl, rfl⟩

theorem witness_DcrDecrementsAndKeepsCarry :
    (nopAt .console 0).Inv ∧ (nopAt .console 0).reg .b = 0x00 ∧ readByte (nopAt .console 0) (nopAt .console 0).hl = .ok 0x00 :=
  ⟨by decide, rfl, rfl⟩

theorem witness_JumpsSetPcOnly :
    condHolds .nz (nopAt .console 0).flags = true ∧ condHolds .z (nopAt .console 0).flags = false := by decide

theorem witness_CallsPushTheReturnAddress :
    (nopAt .arcade 0).Inv ∧ condHolds .po (nopAt .arcade 0).flags = true ∧ condHolds .m (nopAt .arcade 0).flags = false := by
  decide

theorem witness_ReturnsPopPc :
    readByte (nopAt .console 0) 0 = .ok 0x00 ∧ readByte (nopAt .console 0) (0 + 1) = .ok 0x00 ∧
      condHolds .nc (nopAt .console 0).flags = true ∧ condHolds .c (nopAt .console 0).flags = false ∧
        ¬ CanRead ((nopAt .arcade 0).setSp 0x4400) 0x4400 ∧ CanRead ((nopAt .arcade 0).setSp 0x43FF) 0x43FF ∧
          ¬ CanRead ((nopAt .arcade 0).setSp 0x43FF) (0x43FF + 1) :=
  ⟨rfl, rfl, by decide, by decide, by decide, by decide, by decide⟩

theorem witness_ControlInstructionsAndAliases :
    Instr.nop38 ∈ Instr.nops ∧ readByte (nopAt .console 0) 0 = .ok 0x00 ∧ readByte (nopAt .console 0) (0 + 1) = .ok 0x00 :=
  ⟨by decide, rfl, rfl⟩

theorem witness_PushStoresTheWord : ((nopAt .arcade 0).setSp 0x2001).Inv := by decide

theorem witness_PopLoadsTheWord :
    readByte (start .console 0 [(0, 0xC3), (1, 0xFF)]) 0 = .ok 0xC3 ∧
      readByte (start .console 0 [(0, 0xC3), (1, 0xFF)]) (0 + 1) = .ok 0xFF ∧
        ¬ CanRead ((nopAt .arcade 0).setSp 0x4400) 0x4400 ∧ CanRead ((nopAt .arcade 0).setSp 0x43FF) 0x43FF ∧
          ¬ CanRead ((nopAt .arcade 0).setSp 0x43FF) (0x43FF + 1) :=
  ⟨rfl, rfl, by decide, by decide, by decide⟩

theorem witness_FlagByteLayout : pop16 (nopAt .console 0) = .ok (0x0000, (nopAt .console 0).setSp 2) := by rfl

/-- The lowest and the highest SP of arcade mode from which both bytes of a push are accepted. -/
theorem witness_PopAfterPushRestores :
    (nopAt .arcade 0).Inv ∧
      (CanWrite ((nopAt .arcade 0).setSp 0x2002) (0x2002 - 2) ∧ CanWrite ((nopAt .arcade 0).setSp 0x2002) (0x2002 - 1)) ∧
        CanWrite ((nopAt .arcade 0).setSp 0x4001) (0x4001 - 2) ∧ CanWrite ((nopAt .arcade 0).setSp 0x4001) (0x4001 - 1) := by
  decide

/-- A pop after a push whose bytes were dropped still answers. -/
theorem witness_PopAfterPushRestores_dropped :
    pop16 (push16 0xBEEF ((nopAt .arcade 0).setSp 0x0002)) = .ok (0x0000, (nopAt .arcade 0).setSp 0x0002) := by rfl

theorem witness_PswRoundTrip :
    (nopAt .arcade 0).Inv ∧ CanWrite ((nopAt .arcade 0).setSp 0x4001) (0x4001 - 2) ∧
      CanWrite ((nopAt .arcade 0).setSp 0x4001) (0x4001 - 1) := by decide

theorem witness_UndefinedOpcodesReport : Instr.undefineds.map Prod.snd = [0xCB, 0xDD, 0xED, 0xFD] := by rfl

theorem witness_InReadsPorts :
    (0 : Byte).toNat < 3 ∧ (2 : Byte).toNat < 3 ∧ (3 : Byte).toNat = 3 ∧ 4 ≤ (4 : Byte).toNat ∧ 4 ≤ (255 : Byte).toNat := by
  decide

theorem witness_OutWritesPorts :
    (2 : Byte).toNat = 2 ∧ (4 : Byte).toNat = 4 ∧
      (∀ p ∈ ([0, 1, 3, 5, 6] : List Byte), p.toNat < 7 ∧ p.toNat ≠ 2 ∧ p.toNat ≠ 4) ∧ 7 ≤ (7 : Byte).toNat ∧
        7 ≤ (255 : Byte).toNat := by decide

theorem witness_InterruptsAreDeliveredOrLost :
    (nopAt .arcade 0).Inv ∧ ((0 < 2 ∧ 1 < 2) ∧ ((nopAt .arcade 0).setIe true).ie = true) ∧ (nopAt .arcade 0).ie = false ∧ 2 ≤ 2 := by
  decide

theorem witness_InterruptIsTwoExecutes : 1 < 2 ∧ ((nopAt .arcade 0).setIe true).ie = true := by decide

theorem witness_ReturnFromInterruptGoesBack :
    ((nopAt .arcade 0).setIe true).Inv ∧ 1 < 2 ∧ ((nopAt .arcade 0).setIe true).ie = true ∧
      CanWrite (((nopAt .arcade 0).setIe true).setSp 0x2002) (0x2002 - 2) ∧
        CanWrite (((nopAt .arcade 0).setIe true).setSp 0x2002) (0x2002 - 1) := by decide

/-- The last range that fits, and the first that does not, in each mode. -/
theorem witness_LoadFillsTheStore :
    (nopAt .arcade 0).Inv ∧ (0x3FFF : Word).toNat + [(1 : Byte)].length ≤ 0x4000 ∧
      0x4000 < (0x3FFF : Word).toNat + [(1 : Byte), 2].length ∧ (0xFFFF : Word).toNat + [(1 : Byte)].length ≤ 65536 ∧
        65536 < (0xFFFF : Word).toNat + [(1 : Byte), 2].length := by decide

theorem witness_StepKeepsTheStoreCanonical :
    (nopAt .console 0x0100).Inv ∧ StepsTo (nopAt .console 0x0100) (afterFetch .nop (nopAt .console 0x0100)) :=
  ⟨by decide, nopSteps⟩

/-- A run that loads a byte and halts at the exit trap, and one from a halted machine. -/
theorem witness_RunsKeepTheInvariant :
    Reaches (nopAt .console 0) (((nopAt .console 0).setStore [(0x0100, 0x76)]).setHalted true) ∧ (nopAt .console 0).Inv ∧
      Reaches ((nopAt .console 0).setHalted true) ((nopAt .console 0).setHalted true) ∧
        ((nopAt .console 0).setHalted true).halted = true :=
  ⟨.call (.load 0x0100 [0x76]) rfl (.call .clock rfl (.refl _)), by decide, .call .clock rfl (.refl _), rfl⟩

theorem witness_TheMapIsNeverRebound :
    perform (.setInPort 1 0xFF) (nopAt .arcade 0) = .next ((nopAt .arcade 0).setInPort 1 0xFF) := by rfl

/-- A step of `NOP` in arcade mode. -/
theorem arcadeNopSteps : step (nopAt .arcade 0) = .next (afterFetch .nop (nopAt .arcade 0)) := by rfl

/-- A step and an interrupt in arcade mode, and the cells at the edges of the two protected ranges. -/
theorem witness_ArcadeRomIsNeverWritten :
    (nopAt .arcade 0).config.mode = .arcade ∧ perform .clock (nopAt .arcade 0) = .next (afterFetch .nop (nopAt .arcade 0)) ∧
      perform (.interrupt 0) (nopAt .arcade 0) = .next (nopAt .arcade 0) ∧ 0x1FFF < 0x2000 ∧ 0x3FFF < 0x4000 :=
  ⟨rfl, arcadeNopSteps, rfl, by decide, by decide⟩

theorem witness_ArcadeMirrorReadsTheSameCell :
    (nopAt .arcade 0).Inv ∧ (nopAt .arcade 0).config.mode = .arcade ∧
      (0x2000 ≤ (0x2000 : Word).toNat ∧ (0x2000 : Word).toNat ≤ 0x23FF) ∧
        0x2000 ≤ (0x23FF : Word).toNat ∧ (0x23FF : Word).toNat ≤ 0x23FF :=
  ⟨by decide, rfl, by decide, by decide⟩

theorem witness_PortsAndStreamsFollowTheirWriters :
    StepsTo (nopAt .console 0x0100) (afterFetch .nop (nopAt .console 0x0100)) ∧
      perform (.setInPort 3 0x01) (nopAt .console 0) = .next ((nopAt .console 0).setInPort 3 0x01) :=
  ⟨nopSteps, rfl⟩

/-- `NOP` writes no flag, and an instruction that writes CY alone. -/
theorem witness_FlagsChangeOnlyWhereListed :
    exec .nop (nopAt .console 0) = .next (nopAt .console 0) ∧ ¬ WritesAllButCarry .nop ∧ ¬ WritesCarry .nop := by
  refine ⟨rfl, ?_, ?_⟩
  · rintro (⟨op, o, h⟩ | ⟨op, v, h⟩ | ⟨o, h⟩ | ⟨o, h⟩ | h | h)
    · cases op <;> cases o with
      | reg r => cases r <;> cases h
      | m => cases h
    · cases op <;> cases h
    · cases o with
      | reg r => cases r <;> cases h
      | m => cases h
    · cases o with
      | reg r => cases r <;> cases h
      | m => cases h
    · cases h
    · cases h
  · rintro (⟨op, o, h⟩ | ⟨op, v, h⟩ | ⟨p, h⟩ | h | h | h | h | h | h | h | h)
    · cases op <;> cases o with
      | reg r => cases r <;> cases h
      | m => cases h
    · cases op <;> cases h
    · cases p <;> cases h
    all_goals cases h

theorem witness_SpIeAndHaltedChangeOnlyWhereListed :
    exec .nop (nopAt .console 0) = .next (nopAt .console 0) ∧ ¬ WritesSp .nop ∧ Instr.nop ≠ .ei ∧ Instr.nop ≠ .di ∧
      Instr.nop ≠ .hlt := by
  refine ⟨rfl, ?_, by decide, by decide, by decide⟩
  rintro (⟨v, h⟩ | h | h | h | ⟨p, h⟩ | h | ⟨p, h⟩ | h | ⟨a, h⟩ | ⟨cc, a, h⟩ | h | ⟨cc, h⟩ | ⟨n, h⟩)
  · cases h
  · cases h
  · cases h
  · cases h
  · cases p <;> cases h
  · cases h
  · cases p <;> cases h
  · cases h
  · cases h
  · cases cc <;> cases h
  · exact absurd h (by decide)
  · cases cc <;> cases h
  · revert n; decide

/-- Two states that differ in a counter and agree in the rest. -/
theorem witness_CountersAndOutputsInfluenceNothing :
    ((nopAt .console 0x0100).setClockCount 7).eraseUnread = (nopAt .console 0x0100).eraseUnread ∧
      (nopAt .console 0x0100).setClockCount 7 ≠ nopAt .console 0x0100 := by
  refine ⟨rfl, fun h => ?_⟩
  have := congrArg State.clockCount h
  exact absurd this (by decide)

end Sys2Proof.Tests
end

section
/-! The PSW flag byte (`10_state.md` R31) as its list of bits, and PUSH PSW and POP PSW, which pack it and unpack it. -/

namespace Sys2Proof.Machine

/-- The bits of the packed flag byte, from bit 0 up (`10_state.md` R31). -/
def flagBits (f : Flags) : List Bool := [f.cy, true, f.p, false, f.ac, false, f.z, f.s]

/-- The weights summed by `packFlags` are distinct powers of 2, so each flag is the bit at its weight. -/
@[simp] theorem getElem_packFlags (f : Flags) (i : Nat) (h : i < 8) : (packFlags f)[i] = (flagBits f)[i] := by
  obtain ⟨z, s, p, cy, ac⟩ := f
  revert i z s p cy ac
  decide

@[simp] theorem unpackFlags_packFlags (f : Flags) : unpackFlags (packFlags f) = f := by
  simp [unpackFlags, flagBits]

/-- Bits 5, 3 and 1 of the byte are lost, the other five are kept: bit by bit. -/
theorem packFlags_unpackFlags (b : Byte) : packFlags (unpackFlags b) = (b &&& 0xD5) ||| 0x02 := by
  apply BitVec.eq_of_getLsbD_eq
  intro i hi
  interval_cases i <;> simp [flagBits, unpackFlags]

theorem exec_pushPsw (s : State) :
    exec .pushPsw s = .next (push16 (wordOf (s.reg .a) (packFlags s.flags)) s) := rfl

theorem exec_popPsw (s : State) :
    exec .popPsw s =
      orFault (pop16 s) fun r => .next ((r.2.setReg .a (highByte r.1)).setFlags (unpackFlags (lowByte r.1))) := rfl

theorem exec_popPsw_of_pop16 {s u : State} {w : Word} (h : pop16 s = .ok (w, u)) :
    exec .popPsw s = .next ((u.setReg .a (highByte w)).setFlags (unpackFlags (lowByte w))) := by
  rw [exec_popPsw, h, orFault_ok]

/-- Settles O36: the bits of the packed byte are read off its list, and PUSH PSW and POP PSW carry it. -/
theorem flagByteLayout : Obligations.FlagByteLayout := by
  refine ⟨fun f => ?_, packFlags_unpackFlags, fun s => ⟨exec_pushPsw s, fun _ _ => exec_popPsw_of_pop16⟩⟩
  simp [flagBits]

end Sys2Proof.Machine
end

section
/-! The configuration is fixed when the machine is constructed (`20_memory.md` R64): one lemma for the step, one for each host
call that is more than a write of one field, and from them one for every host call. -/

namespace Sys2Proof.Machine

variable {s t : State}

@[simp] theorem takeInterrupt_config (id : Nat) (s : State) : (takeInterrupt id s).config = s.config := by
  simp [takeInterrupt]

/-- Halted and at the exit trap no instruction runs; otherwise neither the console call nor the fetch touches the
configuration, and the instruction keeps it by its `Effect`. -/
theorem step_config (h : step s = .next t) : t.config = s.config := by
  obtain ⟨-, rfl⟩ | ⟨-, -, rfl⟩ | ⟨-, -, bs, i, -, -, hexec⟩ := step_cases h
  · rfl
  · exact State.setHalted_config s true
  · calc
      t.config = (afterFetch i (s.emit bs)).config := (exec_effect i hexec).config
      _ = (s.emit bs).config := afterFetch_config i (s.emit bs)
      _ = s.config := State.emit_config s bs

/-- An interrupt call that is not refused is lost or taken (`60_exceptions.md` R300). -/
theorem interrupt_next {id : Nat} (h : interrupt id s = .next t) :
    (s.ie = false ∧ t = s) ∨ (s.ie = true ∧ t = takeInterrupt id s) := by
  unfold interrupt at h
  split at h
  · split at h
    · next hie => exact .inr ⟨hie, by simpa using h.symm⟩
    · next hie => exact .inl ⟨by simpa using hie, by simpa using h.symm⟩
  · cases h

/-- A load that is not refused writes one run of cells of the store (`20_memory.md` R72). -/
theorem load_next {addr : Word} {buffer : List Byte} (h : load addr buffer s = .next t) :
    t = s.setStore (s.store.writeRun addr.toNat buffer) := by
  unfold load at h
  split at h
  · simpa using h.symm
  · cases h

/-- No host call writes the configuration. -/
theorem perform_config {op : HostOp} (h : perform op s = .next t) : t.config = s.config := by
  cases op with
  | load addr buffer => rw [load_next h, State.setStore_config]
  | clock => exact step_config h
  | interrupt id =>
    obtain ⟨-, rfl⟩ | ⟨-, rfl⟩ := interrupt_next h
    · rfl
    · exact takeInterrupt_config id s
  | setInPort i v => cases h; exact State.setInPort_config s i v
  | resetClockCount => cases h; exact State.setClockCount_config s 0
  | resetInstructionCount => cases h; exact State.setInstructionCount_config s 0

/-- Settles O53: the mode is a field of the configuration, and an address resolves as the mode says. -/
theorem theMapIsNeverRebound : Obligations.TheMapIsNeverRebound := by
  intro op s t h
  have hmode : t.config.mode = s.config.mode := congrArg Config.mode (perform_config h)
  exact ⟨hmode, fun a => by rw [hmode]⟩

end Sys2Proof.Machine
end

section
/-! The encoding (`30_encoding.md`): the decoder and the encoder are inverse to each other, because every instruction is
rebuilt by the row of the opcode map at its opcode byte and every row encodes to its own byte. -/

namespace Sys2Proof

open Laws.OpcodeRow in
/-- The row at an instruction's opcode byte rebuilds it, for every instruction. -/
theorem opcodeRow_rebuilds (i : Instr) : Laws.OpcodeRow.Statement i :=
  i.casesOn (motive := Laws.OpcodeRow.Statement)
    lxiB lxiD lxiH shld lhld lxiSp sta lda jnz jmp cnz jz cz call jnc cnc jc cc jpo cpo jpe cpe jp cp jm cm mviB mviC
    mviD mviE mviH mviL mviM mviA adi aci out sui inp sbi ani xri ori cpi nop staxB inxB inrB dcrB rlc nop08 dadB
    ldaxB dcxB inrC dcrC rrc nop10 staxD inxD inrD dcrD ral nop18 dadD ldaxD dcxD inrE dcrE rar nop20 inxH inrH dcrH
    daa nop28 dadH dcxH inrL dcrL cma nop30 inxSp inrM dcrM stc nop38 dadSp dcxSp inrA dcrA cmc movBB movBC movBD
    movBE movBH movBL movBM movBA movCB movCC movCD movCE movCH movCL movCM movCA movDB movDC movDD movDE movDH movDL
    movDM movDA movEB movEC movED movEE movEH movEL movEM movEA movHB movHC movHD movHE movHH movHL movHM movHA movLB
    movLC movLD movLE movLH movLL movLM movLA movMB movMC movMD movME movMH movML hlt movMA movAB movAC movAD movAE
    movAH movAL movAM movAA addB addC addD addE addH addL addM addA adcB adcC adcD adcE adcH adcL adcM adcA subB subC
    subD subE subH subL subM subA sbbB sbbC sbbD sbbE sbbH sbbL sbbM sbbA anaB anaC anaD anaE anaH anaL anaM anaA
    xraB xraC xraD xraE xraH xraL xraM xraA oraB oraC oraD oraE oraH oraL oraM oraA cmpB cmpC cmpD cmpE cmpH cmpL
    cmpM cmpA rnz popB pushB rst0 rz ret undefCB rst1 rnc popD pushD rst2 rc retD9 undefDD rst3 rpo popH xthl pushH
    rst4 rpe pchl xchg undefED rst5 rp popPsw di pushPsw rst6 rm sphl ei undefFD rst7

end Sys2Proof

namespace Sys2Proof.Machine

theorem encode_eq_opcode_cons_tail (i : Instr) : encode i = opcode i :: (encode i).tail := by cases i <;> rfl

/-! ### The decoder on the three shapes -/

theorem decode_f1 {op : Byte} {i : Instr} (h : opcodeMap op = .f1 i) (rest : List Byte) :
    decode (op :: rest) = .ok (i, rest) := by
  simp only [decode, h]

theorem decode_f2 {op : Byte} {make : Byte → Instr} (h : opcodeMap op = .f2 make) (v : Byte) (rest : List Byte) :
    decode (op :: v :: rest) = .ok (make v, rest) := by
  simp only [decode, h]

theorem decode_f3 {op : Byte} {make : Word → Instr} (h : opcodeMap op = .f3 make) (lo hi : Byte) (rest : List Byte) :
    decode (op :: lo :: hi :: rest) = .ok (make (wordOf hi lo), rest) := by
  simp only [decode, h]

/-! ### The encoder on the three shapes -/

theorem encode_f1 {op : Byte} {i : Instr} (h : opcodeMap op = .f1 i) : encode i = [op] := by
  have hrow := rowEncodes op
  rwa [h] at hrow

theorem encode_f2 {op : Byte} {make : Byte → Instr} (h : opcodeMap op = .f2 make) (v : Byte) :
    encode (make v) = [op, v] := by
  have hrow := rowEncodes op
  rw [h] at hrow
  exact hrow v

theorem encode_f3 {op : Byte} {make : Word → Instr} (h : opcodeMap op = .f3 make) (lo hi : Byte) :
    encode (make (wordOf hi lo)) = [op, lo, hi] := by
  have hrow := rowEncodes op
  rw [h] at hrow
  simpa using hrow (wordOf hi lo)

/-! ### The two directions of the round trip -/

/-- Settles O1: the row at the opcode byte rebuilds the instruction from the operand bytes the encoder wrote. -/
theorem decodeOfEncodeIsTheInstruction : Obligations.DecodeOfEncodeIsTheInstruction := by
  intro i rest
  have hrow := opcodeRow_rebuilds i
  unfold Laws.OpcodeRow.Statement at hrow
  rw [encode_eq_opcode_cons_tail i]
  split at hrow
  · next hshape htail => subst hrow; rw [htail]; exact decode_f1 hshape rest
  · next hshape htail => subst hrow; rw [htail]; exact decode_f2 hshape _ rest
  · next hshape htail => subst hrow; rw [htail]; exact decode_f3 hshape _ _ rest
  · exact hrow.elim

/-- Settles O2: of the bytes the decoder consumes the first is the row's own, and the others are its operand. -/
theorem decodedBytesAreTheEncoding : Obligations.DecodedBytesAreTheEncoding := by
  intro bytes rest i h
  unfold decode at h
  split at h
  · cases h
  · split at h
    · next hshape => cases h; rw [encode_f1 hshape]; rfl
    · next hshape => cases h; rw [encode_f2 hshape]; rfl
    · next hshape => cases h; rw [encode_f3 hshape]; rfl
    all_goals cases h

/-! ### Opcode bytes -/

/-- Settles O3: each of the three shapes decodes to an instruction whose encoding is the row's; the counts are
computed. -/
theorem everyOpcodeByteDecodes : Obligations.EveryOpcodeByteDecodes := by
  refine ⟨fun op x y => ?_, by decide +kernel, by decide +kernel, by decide +kernel⟩
  unfold lengthOf
  cases hshape : opcodeMap op with
  | f1 i =>
    have he := encode_f1 hshape
    exact ⟨i, decode_f1 hshape _, by simp [opcode, he], by simp [Instr.length, Shape.length, he]⟩
  | f2 make =>
    have he := encode_f2 hshape x
    exact ⟨make x, decode_f2 hshape _ _, by simp [opcode, he], by simp [Instr.length, Shape.length, he]⟩
  | f3 make =>
    have he := encode_f3 hshape x y
    exact ⟨make (wordOf y x), decode_f3 hshape _ _ _, by simp [opcode, he], by simp [Instr.length, Shape.length, he]⟩

/-! ### The bytes of each family -/

theorem encode_movRR (dst src : Reg8) :
    encode (.movRR dst src) = [BitVec.ofNat 8 (0x40 + 8 * dst.code + src.code)] := by
  cases dst <;> cases src <;> rfl

theorem encode_movRM (dst : Reg8) : encode (.movRM dst) = [BitVec.ofNat 8 (0x46 + 8 * dst.code)] := by
  cases dst <;> rfl

theorem encode_movMR (r : Reg8) : encode (.movMR r) = [BitVec.ofNat 8 (0x70 + r.code)] := by cases r <;> rfl

theorem encode_mviR (dst : Reg8) (v : Byte) : encode (.mviR dst v) = [BitVec.ofNat 8 (0x06 + 8 * dst.code), v] := by
  cases dst <;> rfl

theorem encode_lxi (p : PairSp) (v : Word) :
    encode (.lxi p v) = [BitVec.ofNat 8 (0x01 + 16 * p.code), lowByte v, highByte v] := by
  cases p <;> rfl

theorem encode_ldax (p : BcDe) : encode (.ldax p) = [BitVec.ofNat 8 (0x0A + 16 * p.code)] := by cases p <;> rfl

theorem encode_stax (p : BcDe) : encode (.stax p) = [BitVec.ofNat 8 (0x02 + 16 * p.code)] := by cases p <;> rfl

theorem encode_inx (p : PairSp) : encode (.inx p) = [BitVec.ofNat 8 (0x03 + 16 * p.code)] := by cases p <;> rfl

theorem encode_dcx (p : PairSp) : encode (.dcx p) = [BitVec.ofNat 8 (0x0B + 16 * p.code)] := by cases p <;> rfl

theorem encode_dad (p : PairSp) : encode (.dad p) = [BitVec.ofNat 8 (0x09 + 16 * p.code)] := by cases p <;> rfl

theorem encode_inr : ∀ o : Operand, encode (.inr o) = [BitVec.ofNat 8 (0x04 + 8 * o.code)]
  | .reg r => by cases r <;> rfl
  | .m => rfl

theorem encode_dcr : ∀ o : Operand, encode (.dcr o) = [BitVec.ofNat 8 (0x05 + 8 * o.code)]
  | .reg r => by cases r <;> rfl
  | .m => rfl

theorem encode_alu (op : AluOp) : ∀ o : Operand, encode (.alu op o) = [BitVec.ofNat 8 (0x80 + 8 * op.code + o.code)]
  | .reg r => by cases op <;> cases r <;> rfl
  | .m => by cases op <;> rfl

theorem encode_aluImm (op : AluOp) (v : Byte) : encode (.aluImm op v) = [BitVec.ofNat 8 (0xC6 + 8 * op.code), v] := by
  cases op <;> rfl

theorem encode_jcc (cc : Cond) (a : Word) :
    encode (.jcc cc a) = [BitVec.ofNat 8 (0xC2 + 8 * cc.code), lowByte a, highByte a] := by
  cases cc <;> rfl

theorem encode_ccc (cc : Cond) (a : Word) :
    encode (.ccc cc a) = [BitVec.ofNat 8 (0xC4 + 8 * cc.code), lowByte a, highByte a] := by
  cases cc <;> rfl

theorem encode_rcc (cc : Cond) : encode (.rcc cc) = [BitVec.ofNat 8 (0xC0 + 8 * cc.code)] := by cases cc <;> rfl

theorem encode_rst (n : Fin 8) : encode (.rst n) = [BitVec.ofNat 8 (0xC7 + 8 * n)] := by
  match n with
  | 0 | 1 | 2 | 3 | 4 | 5 | 6 | 7 => rfl

theorem encode_push (p : RegPair) : encode (.push p) = [BitVec.ofNat 8 (0xC5 + 16 * p.code)] := by cases p <;> rfl

theorem encode_pop (p : RegPair) : encode (.pop p) = [BitVec.ofNat 8 (0xC1 + 16 * p.code)] := by cases p <;> rfl

/-- Settles O4: the families with a field, one lemma each, and then the opcodes that are a byte of the map. -/
theorem opcodeBytesFollowTheirFields : Obligations.OpcodeBytesFollowTheirFields := by
  refine ⟨encode_movRR, encode_movRM, encode_movMR, encode_mviR, fun _ => rfl, encode_lxi, encode_ldax, encode_stax,
    encode_inx, encode_dcx, encode_dad, encode_inr, encode_dcr, encode_alu, encode_aluImm, encode_jcc, encode_ccc,
    encode_rcc, encode_rst, encode_push, encode_pop, ?_⟩
  refine ⟨fun _ => ⟨rfl, rfl, rfl, rfl, rfl, rfl⟩, fun _ => ⟨rfl, rfl⟩, ⟨rfl, rfl, rfl, rfl⟩, ⟨rfl, rfl, rfl, rfl⟩,
    ⟨rfl, rfl, rfl, rfl, rfl, rfl, rfl, rfl, rfl⟩, rfl, rfl, rfl⟩

/-- Settles O5: each word is looked up in the map. -/
theorem sampleWordsDecode : Obligations.SampleWordsDecode := ⟨rfl, rfl, rfl, rfl, rfl, rfl, rfl, rfl⟩

end Sys2Proof.Machine
end

section
/-! Whole-machine rules that follow from the bounds of every instruction (`Effect`): the store, `Halted`, the streams
and `InstructionCount` along a step and along a call of the host. -/

namespace Sys2Proof.Machine

variable {s t : State}

/-! ### The store -/

/-- A step changes the store by byte writes only. -/
theorem step_store (h : step s = .next t) : ∃ ws, t.store = (writeAll ws s).store := by
  obtain ⟨-, rfl⟩ | ⟨-, -, rfl⟩ | ⟨-, -, bs, i, -, -, hexec⟩ := step_cases h
  · exact ⟨[], rfl⟩
  · exact ⟨[], rfl⟩
  · obtain ⟨ws, hws⟩ := (exec_effect i hexec).store
    exact ⟨ws, hws.trans (writeAll_store_congr ws rfl rfl)⟩

/-- The entry of an interrupt changes the store by byte writes only: those of its push. -/
theorem takeInterrupt_store (id : Nat) (s : State) : ∃ ws, (takeInterrupt id s).store = (writeAll ws s).store := by
  obtain ⟨ws, hws⟩ := (callTo_effect (interruptVector id)
    (((s.setIe false).addClock (s.cost opcodeDi)).addClock (s.cost (interruptOpcode id)))).store
  exact ⟨ws, hws.trans (writeAll_store_congr ws rfl rfl)⟩

theorem interrupt_store {id : Nat} (h : interrupt id s = .next t) : ∃ ws, t.store = (writeAll ws s).store := by
  obtain ⟨-, rfl⟩ | ⟨-, rfl⟩ := interrupt_next h
  · exact ⟨[], rfl⟩
  · exact takeInterrupt_store id s

/-- Byte writes keep the canonical form, and the form is one of the store alone. -/
theorem inv_of_writeAll_store {ws : List (Word × Byte)} (hs : s.Inv) (h : t.store = (writeAll ws s).store) : t.Inv := by
  show t.store.wf = true
  rw [h]
  exact writeAll_inv ws hs

/-- Settles O51: a step is a run of byte writes as far as the store goes. -/
theorem stepKeepsTheStoreCanonical : Obligations.StepKeepsTheStoreCanonical := by
  intro s t hs h
  obtain ⟨ws, hws⟩ := step_store h
  exact inv_of_writeAll_store hs hws

/-- The contract of `Load` in integers (`20_memory.md` R72). -/
theorem loadInRange_iff (mode : Mode) (addr : Word) (n : Nat) :
    loadInRange mode addr n = true ↔ addr.toNat + n ≤ 65536 ∧ (mode = .arcade → addr.toNat + n ≤ 0x4000) := by
  unfold loadInRange
  cases mode <;> simp

/-- A load that is not refused lies inside the store. -/
theorem load_next_fits {addr : Word} {buffer : List Byte} (h : load addr buffer s = .next t) :
    addr.toNat + buffer.length ≤ 65536 := by
  unfold load at h
  split at h
  · next hrange => exact ((loadInRange_iff _ _ _).mp hrange).1
  · cases h

theorem perform_inv {op : HostOp} (hs : s.Inv) (h : perform op s = .next t) : t.Inv := by
  cases op with
  | load addr buffer => rw [load_next h]; exact Memory.wf_writeRun (load_next_fits h) hs
  | clock => exact stepKeepsTheStoreCanonical s t hs h
  | interrupt id =>
    obtain ⟨ws, hws⟩ := interrupt_store h
    exact inv_of_writeAll_store hs hws
  | setInPort i v => cases h; exact hs
  | resetClockCount => cases h; exact hs
  | resetInstructionCount => cases h; exact hs

/-- Settles O54: accepted byte writes of arcade mode land in the RAM region. -/
theorem arcadeRomIsNeverWritten : Obligations.ArcadeRomIsNeverWritten := by
  intro s t op hmode hop h c hc
  have hstore : ∃ ws, t.store = (writeAll ws s).store := by
    obtain rfl | ⟨id, rfl⟩ := hop
    · exact step_store h
    · exact interrupt_store h
  obtain ⟨ws, hws⟩ := hstore
  rw [hws, writeAll_outside_ram ws hmode hc]

/-! ### `Halted` -/

theorem step_of_halted (h : s.halted = true) : step s = .next s := by
  unfold step clock
  rw [if_pos h]

theorem atExitTrap_iff : atExitTrap s = true ↔ s.config.mode = .console ∧ s.pc = 0 := by
  simp [atExitTrap]

theorem step_at_exit_trap (hh : s.halted = false) (hx : atExitTrap s = true) : step s = .next (s.setHalted true) := by
  unfold step clock
  rw [hh, if_neg (by decide), if_pos hx]

/-- No call of the host clears `Halted`: a halted machine does not step, and the other calls do not look at it. -/
theorem perform_halted {op : HostOp} (hs : s.halted = true) (h : perform op s = .next t) : t.halted = true := by
  cases op with
  | load addr buffer => rw [load_next h]; exact hs
  | clock =>
    cases (step_of_halted hs).symm.trans h
    exact hs
  | interrupt id =>
    obtain ⟨-, rfl⟩ | ⟨-, rfl⟩ := interrupt_next h
    · exact hs
    · simpa [takeInterrupt] using hs
  | setInPort i v => cases h; exact hs
  | resetClockCount => cases h; exact hs
  | resetInstructionCount => cases h; exact hs

/-- Settles O9: the exit trap is the one test before the fetch that a running machine at 0 meets. -/
theorem haltedIsEnteredAndNeverLeft : Obligations.HaltedIsEnteredAndNeverLeft := by
  refine fun s => ⟨fun hh hmode hpc => ?_, fun hh => ⟨step_of_halted hh, fun op t h => perform_halted hh h⟩⟩
  exact step_at_exit_trap hh (atExitTrap_iff.mpr ⟨hmode, hpc⟩)

/-- Settles O52: by induction on the run, with one law of `perform` for each of the three parts. -/
theorem runsKeepTheInvariant : Obligations.RunsKeepTheInvariant := by
  intro s t hrun
  induction hrun with
  | refl s => exact fun hs => ⟨hs, rfl, id⟩
  | call op h _ ih =>
    intro hs
    obtain ⟨hinv, hconfig, hhalted⟩ := ih (perform_inv hs h)
    exact ⟨hinv, hconfig.trans (perform_config h), fun hh => hhalted (perform_halted hh h)⟩

/-! ### `InstructionCount` and the streams -/

/-- Settles O11: the three kinds of step; an instruction that runs does not count itself. -/
theorem instructionCountCountsFetches : Obligations.InstructionCountCountsFetches := by
  intro s t h
  simp only [← atExitTrap_iff]
  obtain ⟨hh, rfl⟩ | ⟨-, hx, rfl⟩ | ⟨hh, hx, bs, i, -, -, hexec⟩ := step_cases h
  · rw [if_pos (.inl hh)]
  · rw [if_pos (.inr hx)]; rfl
  · rw [if_neg (by simp [hh, hx]), (exec_effect i hexec).instructionCount]
    rfl

/-- A step appends to the console stream what its console call prints, and to the diagnostic stream what its instruction
reports. -/
theorem step_streams (h : step s = .next t) : s.consoleOut <+: t.consoleOut ∧ s.diagnostics <+: t.diagnostics := by
  obtain ⟨-, rfl⟩ | ⟨-, -, rfl⟩ | ⟨-, -, bs, i, -, -, hexec⟩ := step_cases h
  · exact ⟨List.prefix_rfl, List.prefix_rfl⟩
  · exact ⟨List.prefix_rfl, List.prefix_rfl⟩
  · have heffect := exec_effect i hexec
    exact ⟨by rw [heffect.consoleOut]; exact List.prefix_append _ bs, heffect.diagnostics⟩

theorem perform_streams {op : HostOp} (h : perform op s = .next t) :
    s.consoleOut <+: t.consoleOut ∧ s.diagnostics <+: t.diagnostics := by
  have unchanged : ∀ u : State, u.consoleOut = s.consoleOut → u.diagnostics = s.diagnostics →
      s.consoleOut <+: u.consoleOut ∧ s.diagnostics <+: u.diagnostics :=
    fun u hc hd => ⟨by rw [hc], by rw [hd]⟩
  cases op with
  | load addr buffer => rw [load_next h]; exact unchanged _ rfl rfl
  | clock => exact step_streams h
  | interrupt id =>
    obtain ⟨-, rfl⟩ | ⟨-, rfl⟩ := interrupt_next h
    · exact unchanged _ rfl rfl
    · exact unchanged _ (by simp [takeInterrupt]) (by simp [takeInterrupt])
  | setInPort i v => cases h; exact unchanged _ rfl rfl
  | resetClockCount => cases h; exact unchanged _ rfl rfl
  | resetInstructionCount => cases h; exact unchanged _ rfl rfl

end Sys2Proof.Machine
end

section
/-! What an instruction does, said once: `Executed s i t` lists, family by family, the state that `i` leaves, and `exec`
ends in one of these states or in a fault. The rules on which instructions write which field are read off the list. -/

namespace Sys2Proof.Machine

variable {s t : State} {i : Instr}

/-! ### The state each family leaves -/

/-- `i` completes on `s` and leaves `t`. Where it reads memory or a port, the value read is an argument. -/
inductive Executed (s : State) : Instr → State → Prop where
  | movRR (dst src : Reg8) : Executed s (.movRR dst src) (s.setReg dst (s.reg src))
  | movRM (dst : Reg8) {v : Byte} (h : readByte s s.hl = .ok v) : Executed s (.movRM dst) (s.setReg dst v)
  | movMR (src : Reg8) : Executed s (.movMR src) (writeByte s.hl (s.reg src) s)
  | mviR (dst : Reg8) (v : Byte) : Executed s (.mviR dst v) (s.setReg dst v)
  | mviM (v : Byte) : Executed s (.mviM v) (writeByte s.hl v s)
  | lxi (p : PairSp) (v : Word) : Executed s (.lxi p v) (s.setPairSp p v)
  | ldax (p : BcDe) {v : Byte} (h : readByte s (s.bcDe p) = .ok v) : Executed s (.ldax p) (s.setReg .a v)
  | lda (a : Word) {v : Byte} (h : readByte s a = .ok v) : Executed s (.lda a) (s.setReg .a v)
  | stax (p : BcDe) : Executed s (.stax p) (writeByte (s.bcDe p) (s.reg .a) s)
  | sta (a : Word) : Executed s (.sta a) (writeByte a (s.reg .a) s)
  | lhld (a : Word) {v : Word} (h : readWord s a = .ok v) : Executed s (.lhld a) (s.setPair .hl v)
  | shld (a : Word) : Executed s (.shld a) (writeWord a s.hl s)
  | xchg : Executed s .xchg ((s.setPair .hl (s.pair .de)).setPair .de s.hl)
  | xthl {v : Word} (h : readWord s s.sp = .ok v) : Executed s .xthl ((writeWord s.sp s.hl s).setPair .hl v)
  | alu (op : AluOp) (o : Operand) {v : Byte} (h : rd8 o s = .ok v) :
      Executed s (.alu op o)
        ((s.setReg .a (aluFun op (s.reg .a) v s.flags).1).setFlags (aluFun op (s.reg .a) v s.flags).2)
  | aluImm (op : AluOp) (v : Byte) :
      Executed s (.aluImm op v)
        ((s.setReg .a (aluFun op (s.reg .a) v s.flags).1).setFlags (aluFun op (s.reg .a) v s.flags).2)
  | inr (o : Operand) {v : Byte} (h : rd8 o s = .ok v) :
      Executed s (.inr o)
        ((wr8 o (setFlagsAdd v 1 false .auxOnly s.flags).1 s).setFlags (setFlagsAdd v 1 false .auxOnly s.flags).2)
  | dcr (o : Operand) {v : Byte} (h : rd8 o s = .ok v) :
      Executed s (.dcr o)
        ((wr8 o (setFlagsSub v 1 false .auxOnly s.flags).1 s).setFlags (setFlagsSub v 1 false .auxOnly s.flags).2)
  | inx (p : PairSp) : Executed s (.inx p) (s.setPairSp p (s.pairSp p + 1))
  | dcx (p : PairSp) : Executed s (.dcx p) (s.setPairSp p (s.pairSp p - 1))
  | dad (p : PairSp) :
      Executed s (.dad p)
        ((s.setPair .hl (BitVec.ofNat 16 (s.hl.toNat + (s.pairSp p).toNat))).setFlags
          { s.flags with cy := (s.hl.toNat + (s.pairSp p).toNat).testBit 16 })
  | daa : Executed s .daa ((s.setReg .a (daaResult (s.reg .a) s.flags).1).setFlags (daaResult (s.reg .a) s.flags).2)
  | cma : Executed s .cma (s.setReg .a (s.reg .a ^^^ 0xFF))
  | stc : Executed s .stc (s.setFlags { s.flags with cy := true })
  | cmc : Executed s .cmc (s.setFlags { s.flags with cy := !s.flags.cy })
  | rlc :
      Executed s .rlc
        ((s.setReg .a ((s.reg .a <<< 1) ||| BitVec.ofNat 8 ((s.reg .a).getLsbD 7).toNat)).setFlags
          { s.flags with cy := (s.reg .a).getLsbD 7 })
  | rrc :
      Executed s .rrc
        ((s.setReg .a ((s.reg .a >>> 1) ||| (BitVec.ofNat 8 ((s.reg .a).getLsbD 0).toNat <<< 7))).setFlags
          { s.flags with cy := (s.reg .a).getLsbD 0 })
  | ral :
      Executed s .ral
        ((s.setReg .a ((s.reg .a <<< 1) ||| BitVec.ofNat 8 s.flags.cy.toNat)).setFlags
          { s.flags with cy := (s.reg .a).getLsbD 7 })
  | rar :
      Executed s .rar
        ((s.setReg .a ((s.reg .a >>> 1) ||| (BitVec.ofNat 8 s.flags.cy.toNat <<< 7))).setFlags
          { s.flags with cy := (s.reg .a).getLsbD 0 })
  | jmp (a : Word) : Executed s (.jmp a) (s.setPc a)
  | jccTaken (cc : Cond) (a : Word) (h : condHolds cc s.flags = true) : Executed s (.jcc cc a) (s.setPc a)
  | jccNot (cc : Cond) (a : Word) (h : condHolds cc s.flags = false) : Executed s (.jcc cc a) s
  | call (a : Word) : Executed s (.call a) (callTo a s)
  | cccTaken (cc : Cond) (a : Word) (h : condHolds cc s.flags = true) :
      Executed s (.ccc cc a) ((callTo a s).addClock s.config.takenExtra)
  | cccNot (cc : Cond) (a : Word) (h : condHolds cc s.flags = false) : Executed s (.ccc cc a) s
  | ret {i : Instr} (hi : i ∈ Instr.rets) {v : Word} (h : readWord s s.sp = .ok v) :
      Executed s i ((s.setSp (s.sp + 2)).setPc v)
  | rccTaken (cc : Cond) (hc : condHolds cc s.flags = true) {v : Word} (h : readWord s s.sp = .ok v) :
      Executed s (.rcc cc) (((s.addClock s.config.takenExtra).setSp (s.sp + 2)).setPc v)
  | rccNot (cc : Cond) (h : condHolds cc s.flags = false) : Executed s (.rcc cc) s
  | rst (n : Fin 8) : Executed s (.rst n) (callTo (BitVec.ofNat 16 (8 * n)) s)
  | pchl : Executed s .pchl (s.setPc s.hl)
  | push (p : RegPair) : Executed s (.push p) (push16 (s.pair p) s)
  | pushPsw : Executed s .pushPsw (push16 (wordOf (s.reg .a) (packFlags s.flags)) s)
  | pop (p : RegPair) {v : Word} (h : readWord s s.sp = .ok v) :
      Executed s (.pop p) ((s.setSp (s.sp + 2)).setPair p v)
  | popPsw {v : Word} (h : readWord s s.sp = .ok v) :
      Executed s .popPsw (((s.setSp (s.sp + 2)).setReg .a (highByte v)).setFlags (unpackFlags (lowByte v)))
  | sphl : Executed s .sphl (s.setSp s.hl)
  | ei : Executed s .ei (s.setIe true)
  | di : Executed s .di (s.setIe false)
  | inp (p : Byte) {v : Byte} (h : readPort p s = .ok v) : Executed s (.inp p) (s.setReg .a v)
  | out (p : Byte) {u : State} (h : writePort p (s.reg .a) s = .ok u) : Executed s (.out p) u
  | hlt : Executed s .hlt (s.setHalted true)
  | nop {i : Instr} (h : i ∈ Instr.nops) : Executed s i s
  | undefined {i : Instr} {op : Byte} (h : (i, op) ∈ Instr.undefineds) : Executed s i (s.report op)

/-- The result is no refusal, and a next state has the property. -/
def Ends (P : State → Prop) : Result → Prop
  | .next t => P t
  | .fault _ => True
  | .refused _ => False

theorem ends_orFault {α : Type} {P : State → Prop} {r : Except Fault α} {k : α → Result}
    (h : ∀ v, r = .ok v → Ends P (k v)) : Ends P (orFault r k) := by
  cases r with
  | ok v => exact h v rfl
  | error f => trivial

theorem ends_pop16 {P : State → Prop} {k : Word × State → Result}
    (h : ∀ v, readWord s s.sp = .ok v → Ends P (k (v, s.setSp (s.sp + 2)))) : Ends P (orFault (pop16 s) k) := by
  refine ends_orFault fun r hr => ?_
  obtain ⟨v, u⟩ := r
  obtain ⟨hv, rfl⟩ := pop16_ok hr
  exact h v hv

theorem exec_nop {i : Instr} (h : i ∈ Instr.nops) (s : State) : exec i s = .next s := by
  simp only [Instr.nops, List.mem_cons, List.not_mem_nil, or_false] at h
  rcases h with rfl | rfl | rfl | rfl | rfl | rfl | rfl | rfl <;> rfl

theorem exec_undefined {i : Instr} {op : Byte} (h : (i, op) ∈ Instr.undefineds) (s : State) :
    exec i s = .next (s.report op) := by
  simp only [Instr.undefineds, List.mem_cons, Prod.mk.injEq, List.not_mem_nil, or_false] at h
  rcases h with ⟨rfl, rfl⟩ | ⟨rfl, rfl⟩ | ⟨rfl, rfl⟩ | ⟨rfl, rfl⟩ <;> rfl

/-- Every instruction ends in the state of its family, or in a fault; none is refused. -/
theorem exec_ends (i : Instr) (s : State) : Ends (Executed s i) (exec i s) := by
  cases family i with
  | movRR dst src => rw [exec_movRR]; exact .movRR dst src
  | movRM dst => rw [exec_movRM]; exact ends_orFault fun _ h => .movRM dst h
  | movMR src => rw [exec_movMR]; exact .movMR src
  | mviR dst v => rw [exec_mviR]; exact .mviR dst v
  | mviM v => exact .mviM v
  | lxi p v => rw [exec_lxi]; exact .lxi p v
  | ldax p => rw [exec_ldax]; exact ends_orFault fun _ h => .ldax p h
  | lda a => exact ends_orFault fun _ h => .lda a h
  | stax p => rw [exec_stax]; exact .stax p
  | sta a => exact .sta a
  | lhld a => exact ends_orFault fun _ h => .lhld a h
  | shld a => exact .shld a
  | xchg => exact .xchg
  | xthl => exact ends_orFault fun _ h => .xthl h
  | alu op o => rw [exec_alu]; exact ends_orFault fun _ h => .alu op o h
  | aluImm op v => rw [exec_aluImm]; exact .aluImm op v
  | inr o => rw [exec_inr]; exact ends_orFault fun _ h => .inr o h
  | dcr o => rw [exec_dcr]; exact ends_orFault fun _ h => .dcr o h
  | inx p => rw [exec_inx]; exact .inx p
  | dcx p => rw [exec_dcx]; exact .dcx p
  | dad p => rw [exec_dad]; exact .dad p
  | daa => exact .daa
  | cma => exact .cma
  | stc => exact .stc
  | cmc => exact .cmc
  | rlc => exact .rlc
  | rrc => exact .rrc
  | ral => exact .ral
  | rar => exact .rar
  | jmp a => exact .jmp a
  | jcc cc a =>
    rw [exec_jcc, jumpIf]
    split
    · next h => exact .jccTaken cc a h
    · next h => exact .jccNot cc a (Bool.eq_false_iff.mpr h)
  | call a => exact .call a
  | ccc cc a =>
    rw [exec_ccc, callIf]
    split
    · next h => exact .cccTaken cc a h
    · next h => exact .cccNot cc a (Bool.eq_false_iff.mpr h)
  | ret => exact ends_pop16 fun _ h => .ret (by decide) h
  | retD9 => exact ends_pop16 fun _ h => .ret (by decide) h
  | rcc cc =>
    rw [exec_rcc, returnIf]
    split
    · next hc => exact ends_pop16 fun _ h => .rccTaken cc hc h
    · next hc => exact .rccNot cc (Bool.eq_false_iff.mpr hc)
  | rst n => rw [exec_rst]; exact .rst n
  | pchl => exact .pchl
  | push p => rw [exec_push]; exact .push p
  | pushPsw => exact .pushPsw
  | pop p => rw [exec_pop]; exact ends_pop16 fun _ h => .pop p h
  | popPsw => exact ends_pop16 fun _ h => .popPsw h
  | sphl => exact .sphl
  | ei => exact .ei
  | di => exact .di
  | inp p => exact ends_orFault fun _ h => .inp p h
  | out p => exact ends_orFault fun _ h => .out p h
  | hlt => exact .hlt
  | nop _ h => rw [exec_nop h]; exact .nop h
  | undefined _ op h => rw [exec_undefined h]; exact .undefined h

theorem exec_next (h : exec i s = .next t) : Executed s i t := by
  have := exec_ends i s
  rwa [h] at this

theorem exec_not_refused (i : Instr) (s : State) (r : Refusal) : exec i s ≠ .refused r := by
  intro h
  have := exec_ends i s
  rwa [h] at this

/-! ### What a write of an operand and of a port leaves alone -/

@[simp] theorem wr8_sp (o : Operand) (v : Byte) (s : State) : (wr8 o v s).sp = s.sp := by cases o <;> simp [wr8]
@[simp] theorem wr8_pc (o : Operand) (v : Byte) (s : State) : (wr8 o v s).pc = s.pc := by cases o <;> simp [wr8]
@[simp] theorem wr8_ie (o : Operand) (v : Byte) (s : State) : (wr8 o v s).ie = s.ie := by cases o <;> simp [wr8]
@[simp] theorem wr8_halted (o : Operand) (v : Byte) (s : State) : (wr8 o v s).halted = s.halted := by
  cases o <;> simp [wr8]
@[simp] theorem wr8_outPort (o : Operand) (v : Byte) (s : State) : (wr8 o v s).outPort = s.outPort := by
  cases o <;> simp [wr8]
@[simp] theorem wr8_clockCount (o : Operand) (v : Byte) (s : State) : (wr8 o v s).clockCount = s.clockCount := by
  cases o <;> simp [wr8]

/-- A port write leaves everything but the shifter and the output bank. -/
theorem writePort_frame {p v : Byte} (h : writePort p v s = .ok t) :
    t = { s with shiftReg := t.shiftReg, shiftOfs := t.shiftOfs, outPort := t.outPort } := by
  rcases writePort_ok h with ⟨-, rfl⟩ | ⟨-, rfl⟩ | ⟨-, -, -, rfl⟩ <;> rfl

/-! ### Which instructions write which field -/

theorem Executed.allButCarry_eq (h : Executed s i t) (hi : ¬ WritesAllButCarry i) :
    t.flags.z = s.flags.z ∧ t.flags.s = s.flags.s ∧ t.flags.p = s.flags.p ∧ t.flags.ac = s.flags.ac := by
  simp only [WritesAllButCarry, not_or] at hi
  obtain ⟨halu, haluImm, hinr, hdcr, hdaa, hpopPsw⟩ := hi
  cases h with
  | alu op o => exact absurd ⟨op, o, rfl⟩ halu
  | aluImm op v => exact absurd ⟨op, v, rfl⟩ haluImm
  | inr o => exact absurd ⟨o, rfl⟩ hinr
  | dcr o => exact absurd ⟨o, rfl⟩ hdcr
  | daa => exact absurd rfl hdaa
  | popPsw => exact absurd rfl hpopPsw
  | out p h => rw [writePort_frame h]; exact ⟨rfl, rfl, rfl, rfl⟩
  | _ => simp

/-- INR and DCR compute AC alone of the two carries (`41_arithmetic.md` R180 to R183). -/
theorem setFlagsAdd_auxOnly_cy (a b : Byte) (cin : Bool) (f : Flags) :
    (setFlagsAdd a b cin .auxOnly f).2.cy = f.cy := rfl

theorem setFlagsSub_auxOnly_cy (a b : Byte) (bin : Bool) (f : Flags) :
    (setFlagsSub a b bin .auxOnly f).2.cy = f.cy := rfl

theorem Executed.carry_eq (h : Executed s i t) (hi : ¬ WritesCarry i) : t.flags.cy = s.flags.cy := by
  simp only [WritesCarry, not_or] at hi
  obtain ⟨halu, haluImm, hdad, hdaa, hrlc, hrrc, hral, hrar, hstc, hcmc, hpopPsw⟩ := hi
  cases h with
  | alu op o => exact absurd ⟨op, o, rfl⟩ halu
  | aluImm op v => exact absurd ⟨op, v, rfl⟩ haluImm
  | dad p => exact absurd ⟨p, rfl⟩ hdad
  | daa => exact absurd rfl hdaa
  | popPsw => exact absurd rfl hpopPsw
  | rlc => exact absurd rfl hrlc
  | rrc => exact absurd rfl hrrc
  | ral => exact absurd rfl hral
  | rar => exact absurd rfl hrar
  | stc => exact absurd rfl hstc
  | cmc => exact absurd rfl hcmc
  | inr o => exact setFlagsAdd_auxOnly_cy _ _ _ _
  | dcr o => exact setFlagsSub_auxOnly_cy _ _ _ _
  | out p h => rw [writePort_frame h]
  | _ => simp

/-- Settles O57: read off the list of what each family leaves. -/
theorem flagsChangeOnlyWhereListed : Obligations.FlagsChangeOnlyWhereListed :=
  fun _ _ _ h => ⟨(exec_next h).allButCarry_eq, (exec_next h).carry_eq⟩

theorem State.setPairSp_sp_of_ne {p : PairSp} (hp : p ≠ .sp) (v : Word) (s : State) : (s.setPairSp p v).sp = s.sp := by
  cases p with
  | sp => exact absurd rfl hp
  | _ => rfl

theorem Executed.sp_eq (h : Executed s i t) (hi : ¬ WritesSp i) : t.sp = s.sp := by
  simp only [WritesSp, not_or] at hi
  obtain ⟨hlxi, hsphl, hinx, hdcx, hpush, hpushPsw, hpop, hpopPsw, hcall, hccc, hrets, hrcc, hrst⟩ := hi
  cases h with
  | lxi p v => exact State.setPairSp_sp_of_ne (fun hp => hlxi ⟨v, by rw [hp]⟩) v s
  | inx p => exact State.setPairSp_sp_of_ne (fun hp => hinx (by rw [hp])) _ s
  | dcx p => exact State.setPairSp_sp_of_ne (fun hp => hdcx (by rw [hp])) _ s
  | sphl => exact absurd rfl hsphl
  | push p => exact absurd ⟨p, rfl⟩ hpush
  | pushPsw => exact absurd rfl hpushPsw
  | pop p => exact absurd ⟨p, rfl⟩ hpop
  | popPsw => exact absurd rfl hpopPsw
  | call a => exact absurd ⟨a, rfl⟩ hcall
  | cccTaken cc a => exact absurd ⟨cc, a, rfl⟩ hccc
  | ret hm => exact absurd hm hrets
  | rccTaken cc => exact absurd ⟨cc, rfl⟩ hrcc
  | rst n => exact absurd ⟨n, rfl⟩ hrst
  | out p h => rw [writePort_frame h]
  | _ => simp

theorem Executed.ie_eq (h : Executed s i t) (hei : i ≠ .ei) (hdi : i ≠ .di) : t.ie = s.ie := by
  cases h with
  | ei => exact absurd rfl hei
  | di => exact absurd rfl hdi
  | out p h => rw [writePort_frame h]
  | _ => simp

theorem Executed.halted_eq (h : Executed s i t) (hi : i ≠ .hlt) : t.halted = s.halted := by
  cases h with
  | hlt => exact absurd rfl hi
  | out p h => rw [writePort_frame h]
  | _ => simp

/-- Settles O58: read off the list of what each family leaves. -/
theorem spIeAndHaltedChangeOnlyWhereListed : Obligations.SpIeAndHaltedChangeOnlyWhereListed :=
  fun _ _ _ h => ⟨(exec_next h).sp_eq, (exec_next h).ie_eq, (exec_next h).halted_eq⟩

theorem Executed.pc_eq (h : Executed s i t) (hi : ¬ IsControlTransfer i) : t.pc = s.pc := by
  simp only [IsControlTransfer, not_or] at hi
  obtain ⟨hjmp, hjcc, hcall, hccc, hrets, hrcc, hrst, hpchl⟩ := hi
  cases h with
  | jmp a => exact absurd ⟨a, rfl⟩ hjmp
  | jccTaken cc a => exact absurd ⟨cc, a, rfl⟩ hjcc
  | call a => exact absurd ⟨a, rfl⟩ hcall
  | cccTaken cc a => exact absurd ⟨cc, a, rfl⟩ hccc
  | ret hm => exact absurd hm hrets
  | rccTaken cc => exact absurd ⟨cc, rfl⟩ hrcc
  | rst n => exact absurd ⟨n, rfl⟩ hrst
  | pchl => exact absurd rfl hpchl
  | out p h => rw [writePort_frame h]
  | _ => simp

/-- A taken call or return adds `TAKEN_EXTRA`, and neither its push nor its pop touches the counter. -/
theorem exec_clockCount_of_taken (h : exec i s = .next t) (hi : TakenConditional i s) :
    t.clockCount = s.clockCount + BitVec.ofNat 64 s.config.takenExtra := by
  obtain ⟨cc, ⟨a, rfl⟩ | rfl, hc⟩ := hi
  · rw [exec_ccc, callIf, if_pos hc] at h
    cases h
    simp
  · rw [exec_rcc, returnIf, if_pos hc] at h
    obtain ⟨v, -, rfl⟩ := returnToCaller_next h
    rfl

theorem Executed.clockCount_of_not_taken (h : Executed s i t) (hi : ¬ TakenConditional i s) :
    t.clockCount = s.clockCount := by
  cases h with
  | cccTaken cc a h => exact absurd ⟨cc, .inl ⟨a, rfl⟩, h⟩ hi
  | rccTaken cc h => exact absurd ⟨cc, .inr rfl, h⟩ hi
  | out p h => rw [writePort_frame h]
  | _ => simp

/-- An `OUT` writes no entry 2 or 4 of the bank: these ports are the shifter's (`44_stack_io_control.md` R275). -/
theorem writePort_shifter_entries {p v : Byte} (h : writePort p v s = .ok t) :
    t.outPort[2] = s.outPort[2] ∧ t.outPort[4] = s.outPort[4] := by
  rcases writePort_ok h with ⟨-, rfl⟩ | ⟨-, rfl⟩ | ⟨h2, h4, hp, rfl⟩
  · exact ⟨rfl, rfl⟩
  · exact ⟨rfl, rfl⟩
  · have h2' : p.toNat ≠ 2 := fun h => h2 (BitVec.eq_of_toNat_eq h)
    have h4' : p.toNat ≠ 4 := fun h => h4 (BitVec.eq_of_toNat_eq h)
    simp only [State.setOutPort_outPort]
    exact ⟨Vector.getElem_set_ne _ _ h2', Vector.getElem_set_ne _ _ h4'⟩

theorem Executed.shifter_entries (h : Executed s i t) : t.outPort[2] = s.outPort[2] ∧ t.outPort[4] = s.outPort[4] := by
  cases h with
  | out p h => exact writePort_shifter_entries h
  | _ => simp

/-- Settles O56: the input bank is in no instruction's effect, and an `OUT` reaches no entry of the shifter's. -/
theorem portsAndStreamsFollowTheirWriters : Obligations.PortsAndStreamsFollowTheirWriters := by
  refine ⟨fun s t h => ?_, fun op s t h => perform_streams h⟩
  obtain ⟨-, rfl⟩ | ⟨-, -, rfl⟩ | ⟨-, -, bs, i, -, -, hexec⟩ := step_cases h
  · exact ⟨rfl, rfl, rfl⟩
  · exact ⟨rfl, rfl, rfl⟩
  · exact ⟨(exec_effect i hexec).inPort, (exec_next hexec).shifter_entries⟩

end Sys2Proof.Machine
end

section
/-! The fetch (`60_exceptions.md` R290 to R292): what a step runs when the bytes at PC are an instruction, and where it
stops when one of them cannot be read. The three shapes of the opcode map give one lemma each. -/

namespace Sys2Proof.Machine

variable {s t : State} {i : Instr} {op : Byte}

/-! ### The fetches as reads -/

theorem orFault_fetch8 {σ : Type} (s : State) (k : Byte × State → Host.Outcome σ Fault Refusal) :
    orFault (fetch8 s) k = orFault (readByte s s.pc) fun v => k (v, s.setPc (s.pc + 1)) := by
  unfold fetch8
  cases readByte s s.pc <;> rfl

theorem orFault_fetch16 {σ : Type} (s : State) (k : Word × State → Host.Outcome σ Fault Refusal) :
    orFault (fetch16 s) k = orFault (readByte s s.pc) fun lo =>
      orFault (readByte s (s.pc + 1)) fun hi => k (wordOf hi lo, s.setPc (s.pc + 1 + 1)) := by
  unfold fetch16 fetch8
  cases readByte s s.pc with
  | error f => rfl
  | ok lo =>
    simp only [orFault_ok, State.setPc_pc, readByte_congr (t := s.setPc (s.pc + 1)) (s := s) rfl rfl]
    cases readByte s (s.pc + 1) <;> rfl

theorem Word.add_one_add_one (v : Word) : v + 1 + 1 = v + 2 := by rw [BitVec.add_assoc]; rfl

/-! ### The three shapes -/

/-- An opcode alone. -/
theorem fetchExecute_f1 (hop : readByte s s.pc = .ok op) (hshape : opcodeMap op = .f1 i) :
    fetchExecute s = exec i (afterFetch i s) := by
  have he := encode_f1 hshape
  rw [afterFetch_eq i s (n := 1) (op := op) (by simp [Instr.length, he]) (by simp [opcode, he])]
  unfold fetchExecute execute dispatch
  rw [orFault_fetch8, hop, orFault_ok, hshape]
  rfl

/-- An opcode with a byte operand at the next address. -/
theorem fetchExecute_f2 {make : Byte → Instr} (hop : readByte s s.pc = .ok op) (hshape : opcodeMap op = .f2 make) :
    fetchExecute s = orFault (readByte s (s.pc + 1)) fun v => exec (make v) (afterFetch (make v) s) := by
  have hafter : ∀ v, afterFetch (make v) s = _ := fun v =>
    afterFetch_eq (make v) s (n := 2) (op := op) (by simp [Instr.length, encode_f2 hshape])
      (by simp [opcode, encode_f2 hshape])
  simp only [hafter, show s.pc + BitVec.ofNat 16 2 = s.pc + 1 + 1 from (Word.add_one_add_one s.pc).symm]
  unfold fetchExecute execute dispatch
  rw [orFault_fetch8, hop, orFault_ok, hshape]
  exact orFault_fetch8 _ _

/-- An opcode with a word operand at the next two addresses, low byte first. -/
theorem fetchExecute_f3 {make : Word → Instr} (hop : readByte s s.pc = .ok op) (hshape : opcodeMap op = .f3 make) :
    fetchExecute s = orFault (readByte s (s.pc + 1)) fun lo => orFault (readByte s (s.pc + 2)) fun hi =>
      exec (make (wordOf hi lo)) (afterFetch (make (wordOf hi lo)) s) := by
  have hafter : ∀ lo hi, afterFetch (make (wordOf hi lo)) s = _ := fun lo hi =>
    afterFetch_eq (make (wordOf hi lo)) s (n := 3) (op := op) (by simp [Instr.length, encode_f3 hshape])
      (by simp [opcode, encode_f3 hshape])
  have hpc : s.pc + BitVec.ofNat 16 3 = s.pc + 1 + 1 + 1 := by
    rw [Word.add_one_add_one, BitVec.add_assoc]; rfl
  simp only [hafter, hpc, ← Word.add_one_add_one s.pc]
  unfold fetchExecute execute dispatch
  rw [orFault_fetch8, hop, orFault_ok, hshape]
  exact orFault_fetch16 _ _

/-! ### Where the bytes at PC are an instruction -/

theorem fetchesAt_f1 (hop : readByte s s.pc = .ok op) (hshape : opcodeMap op = .f1 i) : FetchesAt s i := by
  refine ⟨[op], decode_f1 hshape _, fun k hk => ?_⟩
  obtain rfl : k = 0 := by simpa using hk
  simpa using hop

theorem fetchesAt_f2 {make : Byte → Instr} {v : Byte} (hop : readByte s s.pc = .ok op)
    (hshape : opcodeMap op = .f2 make) (hv : readByte s (s.pc + 1) = .ok v) : FetchesAt s (make v) := by
  refine ⟨[op, v], decode_f2 hshape _ _, fun k hk => ?_⟩
  match k with
  | 0 => simpa using hop
  | 1 => exact hv
  | k + 2 => simp at hk

theorem fetchesAt_f3 {make : Word → Instr} {lo hi : Byte} (hop : readByte s s.pc = .ok op)
    (hshape : opcodeMap op = .f3 make) (hlo : readByte s (s.pc + 1) = .ok lo) (hhi : readByte s (s.pc + 2) = .ok hi) :
    FetchesAt s (make (wordOf hi lo)) := by
  refine ⟨[op, lo, hi], decode_f3 hshape _ _ _, fun k hk => ?_⟩
  match k with
  | 0 => simpa using hop
  | 1 => exact hlo
  | 2 => exact hhi
  | k + 3 => simp at hk

/-- The fetch reads the instruction that stands at PC. -/
theorem fetchExecute_of_fetchesAt (h : FetchesAt s i) : fetchExecute s = exec i (afterFetch i s) := by
  obtain ⟨bytes, hdecode, hread⟩ := h
  unfold decode at hdecode
  split at hdecode
  · cases hdecode
  · have hop := hread 0 (by simp)
    simp only [BitVec.add_zero, List.getElem_cons_zero] at hop
    split at hdecode
    · next hshape => cases hdecode; exact fetchExecute_f1 hop hshape
    · next hshape =>
      cases hdecode
      rw [fetchExecute_f2 hop hshape, show readByte s (s.pc + 1) = _ from hread 1 (by simp)]
      rfl
    · next hshape =>
      cases hdecode
      rw [fetchExecute_f3 hop hshape, show readByte s (s.pc + 1) = _ from hread 1 (by simp),
        show readByte s (s.pc + 2) = _ from hread 2 (by simp)]
      rfl
    all_goals cases hdecode

/-! ### Plain steps -/

theorem step_of_plain (h : PlainStep s) : step s = fetchExecute s := by
  obtain ⟨hh, hx, hc⟩ := h
  unfold step clock beforeFetch
  simp [hh, hx, hc]

/-- Settles O6: off the traps a step is the fetch, and the fetch reads the instruction at PC. -/
theorem stepRunsTheDecodedInstruction : Obligations.StepRunsTheDecodedInstruction :=
  fun _ _ hplain hfetch => (step_of_plain hplain).trans (fetchExecute_of_fetchesAt hfetch)

/-- Settles O12: the fetch adds the table entry, and of the instructions only a taken conditional adds to it. -/
theorem clockCountFollowsTheTable : Obligations.ClockCountFollowsTheTable := by
  intro s t i hplain hfetch hstep
  have hexec := (stepRunsTheDecodedInstruction s i hplain hfetch).symm.trans hstep
  exact ⟨exec_clockCount_of_taken hexec, (exec_next hexec).clockCount_of_not_taken⟩

/-- Settles O13: the fetch moves PC past the instruction, and of the instructions only a transfer moves it again. -/
theorem pcAdvancesByTheLength : Obligations.PcAdvancesByTheLength := by
  intro s t i hplain hfetch hstep hi
  exact (exec_next ((stepRunsTheDecodedInstruction s i hplain hfetch).symm.trans hstep)).pc_eq hi

/-! ### Where a fetch stops -/

/-- The operand bytes: the shape of the opcode says how many operand bytes are read, and in which order. -/
theorem fetch_stops_where_unmapped (hplain : PlainStep s) (hop : readByte s s.pc = .ok op) :
    (2 ≤ lengthOf op → ¬ CanRead s (s.pc + 1) → step s = .fault (.unmappedRead (s.pc + 1))) ∧
      (lengthOf op = 3 → CanRead s (s.pc + 1) → ¬ CanRead s (s.pc + 2) →
        step s = .fault (.unmappedRead (s.pc + 2))) ∧
        ((∀ k < lengthOf op, CanRead s (s.pc + BitVec.ofNat 16 k)) →
          ∃ i : Instr, opcode i = op ∧ FetchesAt s i ∧ step s = exec i (afterFetch i s)) := by
  have hruns : ∀ i, FetchesAt s i → step s = exec i (afterFetch i s) :=
    fun i => stepRunsTheDecodedInstruction s i hplain
  rw [step_of_plain hplain] at hruns ⊢
  unfold lengthOf
  cases hshape : opcodeMap op with
  | f1 i =>
    refine ⟨fun h => by simp [Shape.length] at h, fun h => by simp [Shape.length] at h, fun _ => ?_⟩
    have hf := fetchesAt_f1 hop hshape
    exact ⟨i, by simp [opcode, encode_f1 hshape], hf, hruns i hf⟩
  | f2 make =>
    refine ⟨fun _ h1 => ?_, fun h => by simp [Shape.length] at h, fun hk => ?_⟩
    · rw [fetchExecute_f2 hop hshape, readByte_unmapped h1, orFault_error]
    · obtain ⟨v, hv⟩ := readByte_ok (hk 1 (by simp [Shape.length]))
      have hf := fetchesAt_f2 hop hshape hv
      exact ⟨_, by simp [opcode, encode_f2 hshape], hf, hruns _ hf⟩
  | f3 make =>
    refine ⟨fun _ h1 => ?_, fun _ h1 h2 => ?_, fun hk => ?_⟩
    · rw [fetchExecute_f3 hop hshape, readByte_unmapped h1, orFault_error]
    · obtain ⟨lo, hlo⟩ := readByte_ok h1
      rw [fetchExecute_f3 hop hshape, hlo, orFault_ok, readByte_unmapped h2, orFault_error]
    · obtain ⟨lo, hlo⟩ := readByte_ok (hk 1 (by simp [Shape.length]))
      obtain ⟨hi, hhi⟩ := readByte_ok (hk 2 (by simp [Shape.length]))
      have hf := fetchesAt_f3 hop hshape hlo hhi
      exact ⟨_, by simp [opcode, encode_f3 hshape], hf, hruns _ hf⟩

/-- An instruction that reads M and then completes stops exactly where HL cannot be read. -/
theorem readsM_ends {k : Byte → Result} (hexec : exec i s = orFault (rd8 .m s) k) (hk : ∀ v, ∃ t, k v = .next t) :
    (CanRead s s.hl → ∃ t, exec i s = .next t) ∧ (¬ CanRead s s.hl → exec i s = .fault (.unmappedRead s.hl)) := by
  rw [hexec, rd8]
  refine ⟨fun h => ?_, fun h => by rw [readByte_unmapped h, orFault_error]⟩
  obtain ⟨v, hv⟩ := readByte_ok h
  rw [hv, orFault_ok]
  exact hk v

/-- Settles O10: the opcode byte, the operand bytes, and the read of M. -/
theorem unmappedReadsStop : Obligations.UnmappedReadsStop := by
  refine fun s => ⟨fun hh hmode => ?_, fun i hi => ?_⟩
  · have hplain : PlainStep s := ⟨hh, by simp [atExitTrap, hmode], by simp [atCallTrap, hmode]⟩
    refine ⟨fun h0 => ?_, fun op hop => fetch_stops_where_unmapped hplain hop⟩
    rw [step_of_plain hplain, fetchExecute, orFault_fetch8, readByte_unmapped h0, orFault_error]
  · rcases hi with ⟨op, rfl⟩ | rfl | rfl
    · exact readsM_ends (exec_alu s op .m) fun _ => ⟨_, rfl⟩
    · exact readsM_ends (exec_inr s .m) fun _ => ⟨_, rfl⟩
    · exact readsM_ends (exec_dcr s .m) fun _ => ⟨_, rfl⟩

end Sys2Proof.Machine
end

section
/-! The console call trap (`60_exceptions.md` R312 to R314): the service, the scan of a printed string, and the
instruction at the trap, which runs in the same step. -/

namespace Sys2Proof.Machine

variable {s t : State} {i : Instr}

/-! ### The scan -/

theorem scanString_terminator {addr : Word} (h : readByte s addr = .ok stringTerminator) (fuel : Nat) :
    scanString s (fuel + 1) addr = .next [] := by
  rw [scanString, h]
  exact if_pos rfl

theorem scanString_byte {addr : Word} {b : Byte} {bs : List Byte} {fuel : Nat} (h : readByte s addr = .ok b)
    (hb : b ≠ stringTerminator) (htail : scanString s fuel (addr + 1) = .next bs) :
    scanString s (fuel + 1) addr = .next (b :: bs) := by
  simp only [scanString, h, if_neg hb, htail]

theorem scanString_byte_refused {addr : Word} {b : Byte} {r : Refusal} {fuel : Nat} (h : readByte s addr = .ok b)
    (hb : b ≠ stringTerminator) (htail : scanString s fuel (addr + 1) = .refused r) :
    scanString s (fuel + 1) addr = .refused r := by
  simp only [scanString, h, if_neg hb, htail]

theorem Word.add_one_add_ofNat (addr : Word) (k : Nat) :
    addr + 1 + BitVec.ofNat 16 k = addr + BitVec.ofNat 16 (k + 1) := by
  rw [BitVec.add_assoc, Nat.add_comm k, BitVec.ofNat_add]
  rfl

/-- The scan gives the bytes before the terminator, when it is given more reads than there are bytes. -/
theorem scanString_of_string {bs : List Byte} {fuel : Nat} {addr : Word} (hfuel : bs.length < fuel)
    (hbytes : ∀ (k : Nat) (h : k < bs.length),
      readByte s (addr + BitVec.ofNat 16 k) = .ok bs[k] ∧ bs[k] ≠ stringTerminator)
    (hend : readByte s (addr + BitVec.ofNat 16 bs.length) = .ok stringTerminator) :
    scanString s fuel addr = .next bs := by
  induction bs generalizing fuel addr with
  | nil =>
    obtain ⟨fuel, rfl⟩ := Nat.exists_eq_add_one.mpr hfuel
    exact scanString_terminator (by simpa using hend) fuel
  | cons b bs ih =>
    obtain ⟨fuel, rfl⟩ := Nat.exists_eq_add_one.mpr (Nat.zero_lt_of_lt hfuel)
    obtain ⟨hb, hne⟩ := hbytes 0 (by simp)
    refine scanString_byte (by simpa using hb) hne (ih (by simpa using hfuel) (fun k hk => ?_) ?_)
    · rw [Word.add_one_add_ofNat]
      exact hbytes (k + 1) (by simpa using hk)
    · rw [Word.add_one_add_ofNat]
      exact hend

/-- In console mode the scan runs out of reads when none of them gives a terminator, and else ends with the string. -/
theorem scanString_console (hmode : s.config.mode = .console) (fuel : Nat) (addr : Word) :
    (scanString s fuel addr = .refused .unterminatedString ∧
        ∀ k < fuel, readByte s (addr + BitVec.ofNat 16 k) ≠ .ok stringTerminator) ∨
      ((∃ bs, scanString s fuel addr = .next bs) ∧
        ∃ k < fuel, readByte s (addr + BitVec.ofNat 16 k) = .ok stringTerminator) := by
  induction fuel generalizing addr with
  | zero => exact .inl ⟨rfl, by simp⟩
  | succ fuel ih =>
    obtain ⟨b, hb⟩ := readByte_ok (.inl hmode : CanRead s addr)
    by_cases hterm : b = stringTerminator
    · subst hterm
      exact .inr ⟨⟨[], scanString_terminator hb fuel⟩, 0, by omega, by simpa using hb⟩
    · rcases ih (addr + 1) with ⟨hscan, hall⟩ | ⟨⟨bs, hscan⟩, k, hk, hread⟩
      · refine .inl ⟨scanString_byte_refused hb hterm hscan, fun k hk => ?_⟩
        match k with
        | 0 => simpa [hb] using hterm
        | k + 1 => rw [← Word.add_one_add_ofNat]; exact hall k (by omega)
      · rw [Word.add_one_add_ofNat] at hread
        exact .inr ⟨⟨b :: bs, scanString_byte hb hterm hscan⟩, k + 1, by omega, hread⟩

/-! ### The service -/

theorem consoleCall_char (hc : s.reg .c = 2) : consoleCall s = .next (s.emit [s.reg .e]) := if_pos hc

theorem consoleCall_string {bs : List Byte} (hc : s.reg .c = 9) (hscan : scanString s 65536 (s.pair .de) = .next bs) :
    consoleCall s = .next (s.emit bs) := by
  unfold consoleCall
  rw [if_neg (by rw [hc]; decide), if_pos hc, hscan]

theorem consoleCall_unterminated {r : Refusal} (hc : s.reg .c = 9)
    (hscan : scanString s 65536 (s.pair .de) = .refused r) : consoleCall s = .refused r := by
  unfold consoleCall
  rw [if_neg (by rw [hc]; decide), if_pos hc, hscan]

theorem consoleCall_other (h2 : s.reg .c ≠ 2) (h9 : s.reg .c ≠ 9) : consoleCall s = .next s := by
  unfold consoleCall
  rw [if_neg h2, if_neg h9]

/-! ### The step at the trap -/

/-- A machine that runs, with PC at the call trap (`60_exceptions.md` R312). -/
def AtRunningCallTrap (s : State) : Prop := s.halted = false ∧ s.config.mode = .console ∧ s.pc = 5

/-- At the call trap a step is the service and then the fetch. -/
theorem step_of_consoleCall_next (h : AtRunningCallTrap s) (hcall : consoleCall s = .next t) :
    step s = fetchExecute t := by
  obtain ⟨hh, hmode, hpc⟩ := h
  unfold step clock beforeFetch
  simp [hh, atExitTrap, atCallTrap, hmode, hpc, hcall]

/-- A refused service refuses the step. -/
theorem step_of_consoleCall_refused {r : Refusal} (h : AtRunningCallTrap s) (hcall : consoleCall s = .refused r) :
    step s = .refused r := by
  obtain ⟨hh, hmode, hpc⟩ := h
  unfold step clock beforeFetch
  simp [hh, atExitTrap, atCallTrap, hmode, hpc, hcall]

theorem FetchesAt.emit (h : FetchesAt s i) (bs : List Byte) : FetchesAt (s.emit bs) i := h

/-- Settles O7: the service by the selector, and then the instruction that the bytes at 5 still are. -/
theorem callTrapServesThenRuns : Obligations.CallTrapServesThenRuns := by
  intro s i hh hmode hpc hfetch
  have htrap : AtRunningCallTrap s := ⟨hh, hmode, hpc⟩
  refine ⟨fun h2 => ?_, fun bs h9 ⟨hlen, hbytes, hend⟩ => ?_, fun h2 h9 => ?_⟩
  · rw [step_of_consoleCall_next htrap (consoleCall_char h2)]
    exact fetchExecute_of_fetchesAt (hfetch.emit _)
  · rw [step_of_consoleCall_next htrap (consoleCall_string h9 (scanString_of_string hlen hbytes hend))]
    exact fetchExecute_of_fetchesAt (hfetch.emit bs)
  · rw [step_of_consoleCall_next htrap (consoleCall_other h2 h9)]
    exact fetchExecute_of_fetchesAt hfetch

/-! ### Who refuses a step -/

theorem orFault_not_refused {α : Type} {x : Except Fault α} {k : α → Result} {r : Refusal}
    (hk : ∀ v, k v ≠ .refused r) : orFault x k ≠ .refused r := by
  cases x with
  | ok v => exact hk v
  | error f => simp

theorem dispatch_not_refused (op : Byte) (s : State) (r : Refusal) : dispatch op s ≠ .refused r := by
  unfold dispatch
  split
  · exact exec_not_refused _ s r
  · exact orFault_not_refused fun _ => exec_not_refused _ _ r
  · exact orFault_not_refused fun _ => exec_not_refused _ _ r

theorem fetchExecute_not_refused (s : State) (r : Refusal) : fetchExecute s ≠ .refused r :=
  orFault_not_refused fun _ => dispatch_not_refused _ _ r

/-- Every address is among the 65536 that the scan reads. -/
theorem Word.exists_offset (base a : Word) : ∃ k < 65536, base + BitVec.ofNat 16 k = a := by
  refine ⟨(a - base).toNat, (a - base).isLt, ?_⟩
  rw [BitVec.ofNat_toNat, BitVec.setWidth_eq, BitVec.add_comm, BitVec.sub_add_cancel]

/-- Settles O8: no instruction is refused, so a refusal is the scan's, and the scan reads every cell. -/
theorem unterminatedStringIsRefused : Obligations.UnterminatedStringIsRefused := by
  intro s hh hmode hpc h9
  have htrap : AtRunningCallTrap s := ⟨hh, hmode, hpc⟩
  rcases scanString_console hmode 65536 (s.pair .de) with ⟨hscan, hall⟩ | ⟨⟨bs, hscan⟩, k, hk, hread⟩
  · refine ⟨fun _ a => ?_, fun _ => step_of_consoleCall_refused htrap (consoleCall_unterminated h9 hscan)⟩
    obtain ⟨k, hk, rfl⟩ := Word.exists_offset (s.pair .de) a
    exact hall k hk
  · rw [step_of_consoleCall_next htrap (consoleCall_string h9 hscan)]
    exact ⟨fun h => absurd h (fetchExecute_not_refused _ _), fun h => absurd hread (h _)⟩

end Sys2Proof.Machine
end

section
/-! What nothing reads (`10_state.md` R36, R39 to R41): erasing the counters, the cycle table, the output bank and the
streams before a step leaves the same result, up to what was erased. The property is built up from the reads and updates
of an operation (`UpdateIgnoresUnread.next`, `IgnoresUnread.orFault`, `.ite`, `.comp`)
and then used once for each family. -/

namespace Sys2Proof.Machine

variable {α : Type} {s t : State}

/-- A state update whose erased result depends on the erased state alone. -/
def UpdateIgnoresUnread (g : State → State) : Prop := ∀ s, (g s).eraseUnread = (g s.eraseUnread).eraseUnread

/-- An operation whose erased result depends on the erased state alone. -/
def IgnoresUnread (f : State → Result) : Prop :=
  ∀ s, mapNext State.eraseUnread (f s) = mapNext State.eraseUnread (f s.eraseUnread)

/-! ### How operations are put together -/

theorem IgnoresUnread.congr {f g : State → Result} (hg : IgnoresUnread g) (h : ∀ s, f s = g s) : IgnoresUnread f := by
  intro s
  rw [h, h]
  exact hg s

theorem UpdateIgnoresUnread.next {g : State → State} (hg : UpdateIgnoresUnread g) :
    IgnoresUnread fun s => .next (g s) :=
  fun s => congrArg Host.Outcome.next (hg s)

theorem IgnoresUnread.orFault {x : State → Except Fault α} {k : α → State → Result} (hx : ∀ s, x s.eraseUnread = x s)
    (hk : ∀ v, IgnoresUnread (k v)) : IgnoresUnread fun s => orFault (x s) fun v => k v s := by
  intro s
  simp only [hx]
  cases x s with
  | ok v => exact hk v s
  | error f => rfl

theorem IgnoresUnread.ite {c : State → Prop} [DecidablePred c] {f g : State → Result}
    (hc : ∀ s, c s.eraseUnread ↔ c s) (hf : IgnoresUnread f) (hg : IgnoresUnread g) :
    IgnoresUnread fun s => if c s then f s else g s := by
  intro s
  simp only [hc]
  split
  · exact hf s
  · exact hg s

theorem UpdateIgnoresUnread.ite {c : State → Prop} [DecidablePred c] {f g : State → State}
    (hc : ∀ s, c s.eraseUnread ↔ c s) (hf : UpdateIgnoresUnread f) (hg : UpdateIgnoresUnread g) :
    UpdateIgnoresUnread fun s => if c s then f s else g s := by
  intro s
  simp only [hc]
  split
  · exact hf s
  · exact hg s

theorem IgnoresUnread.comp {f : State → Result} {g : State → State} (hf : IgnoresUnread f)
    (hg : UpdateIgnoresUnread g) : IgnoresUnread fun s => f (g s) := by
  intro s
  calc mapNext State.eraseUnread (f (g s))
    _ = mapNext State.eraseUnread (f (g s).eraseUnread) := hf (g s)
    _ = mapNext State.eraseUnread (f (g s.eraseUnread).eraseUnread) := by rw [hg s]
    _ = mapNext State.eraseUnread (f (g s.eraseUnread)) := (hf (g s.eraseUnread)).symm

/-- States that agree but for what is erased give results that agree but for it. -/
theorem IgnoresUnread.of_eq {f : State → Result} (hf : IgnoresUnread f) (h : s.eraseUnread = t.eraseUnread) :
    mapNext State.eraseUnread (f s) = mapNext State.eraseUnread (f t) := by
  rw [hf s, h, ← hf t]

/-! ### Stores -/

theorem eraseUnread_writeByte (addr : Word) (v : Byte) (s : State) :
    (writeByte addr v s).eraseUnread = writeByte addr v s.eraseUnread := by
  have hmode : s.eraseUnread.config.mode = s.config.mode := rfl
  unfold writeByte
  rw [hmode]
  split
  · split <;> rfl
  · rfl

theorem eraseUnread_writeWord (addr v : Word) (s : State) :
    (writeWord addr v s).eraseUnread = writeWord addr v s.eraseUnread := by
  unfold writeWord
  rw [eraseUnread_writeByte, eraseUnread_writeByte]

theorem eraseUnread_push16 (v : Word) (s : State) : (push16 v s).eraseUnread = push16 v s.eraseUnread :=
  eraseUnread_writeWord _ _ _

theorem eraseUnread_callTo (target : Word) (s : State) :
    (callTo target s).eraseUnread = callTo target s.eraseUnread := by
  unfold callTo
  rw [show ∀ u : State, (u.setPc target).eraseUnread = u.eraseUnread.setPc target from fun _ => rfl, eraseUnread_push16]
  rfl

theorem eraseUnread_wr8 (o : Operand) (v : Byte) (s : State) : (wr8 o v s).eraseUnread = wr8 o v s.eraseUnread := by
  cases o with
  | reg r => rfl
  | m => exact eraseUnread_writeByte _ _ _

/-- An update that commutes with the erasure. -/
theorem UpdateIgnoresUnread.of_commutes {g : State → State} (hg : ∀ s, (g s).eraseUnread = g s.eraseUnread) :
    UpdateIgnoresUnread g := by
  intro s
  rw [← hg s]
  rfl

theorem orFault_pop16 (s : State) (k : Word × State → Result) :
    orFault (pop16 s) k = orFault (readWord s s.sp) fun v => k (v, s.setSp (s.sp + 2)) := by
  unfold pop16
  cases readWord s s.sp <;> rfl

theorem returnToCaller_ignoresUnread : IgnoresUnread returnToCaller :=
  (IgnoresUnread.orFault (x := fun s => readWord s s.sp) (fun _ => rfl) fun v =>
    UpdateIgnoresUnread.next (g := fun s => (s.setSp (s.sp + 2)).setPc v) fun _ => rfl).congr
      fun s => orFault_pop16 s _

/-! ### Every instruction -/

/-- An instruction that reads one value and then updates the state with it. -/
theorem IgnoresUnread.readThen {i : Instr} {x : State → Except Fault α} {g : α → State → State}
    (h : ∀ s, exec i s = Machine.orFault (x s) fun v => .next (g v s)) (hx : ∀ s, x s.eraseUnread = x s)
    (hg : ∀ v, UpdateIgnoresUnread (g v)) : IgnoresUnread (exec i) :=
  (IgnoresUnread.orFault hx fun v => (hg v).next).congr h

/-- An instruction that only updates the state. -/
theorem IgnoresUnread.update {i : Instr} {g : State → State} (h : ∀ s, exec i s = .next (g s))
    (hg : UpdateIgnoresUnread g) : IgnoresUnread (exec i) :=
  hg.next.congr h

theorem exec_ignoresUnread (i : Instr) : IgnoresUnread (exec i) := by
  cases family i with
  | movRR dst src => exact .update (exec_movRR · dst src) fun _ => rfl
  | movRM dst => exact .readThen (exec_movRM · dst) (fun _ => rfl) fun _ _ => rfl
  | movMR src => exact .update (exec_movMR · src) (.of_commutes fun _ => eraseUnread_writeByte _ _ _)
  | mviR dst v => exact .update (exec_mviR · dst v) fun _ => rfl
  | mviM v => exact .update (fun _ => rfl) (.of_commutes fun _ => eraseUnread_writeByte _ _ _)
  | lxi p v => exact .update (exec_lxi · p v) fun _ => by cases p <;> rfl
  | ldax p => exact .readThen (exec_ldax · p) (fun _ => by cases p <;> rfl) fun _ _ => rfl
  | lda a => exact .readThen (fun _ => rfl) (fun _ => rfl) fun _ _ => rfl
  | stax p =>
    refine .update (exec_stax · p) (.of_commutes fun s => ?_)
    rw [eraseUnread_writeByte]
    cases p <;> rfl
  | sta a => exact .update (fun _ => rfl) (.of_commutes fun _ => eraseUnread_writeByte _ _ _)
  | lhld a => exact .readThen (fun _ => rfl) (fun _ => rfl) fun _ _ => rfl
  | shld a => exact .update (fun _ => rfl) (.of_commutes fun _ => eraseUnread_writeWord _ _ _)
  | xchg => exact .update (fun _ => rfl) fun _ => rfl
  | xthl =>
    refine .readThen (x := fun s => readWord s s.sp) (fun _ => rfl) (fun _ => rfl) fun v => .of_commutes fun s => ?_
    exact congrArg (State.setPair .hl v) (eraseUnread_writeWord _ _ _)
  | alu op o => exact .readThen (exec_alu · op o) (fun _ => by cases o <;> rfl) fun _ _ => rfl
  | aluImm op v => exact .update (exec_aluImm · op v) fun _ => rfl
  | inr o =>
    refine .readThen (exec_inr · o) (fun _ => by cases o <;> rfl) fun v => .of_commutes fun s => ?_
    exact congrArg (State.setFlags _) (eraseUnread_wr8 o _ s)
  | dcr o =>
    refine .readThen (exec_dcr · o) (fun _ => by cases o <;> rfl) fun v => .of_commutes fun s => ?_
    exact congrArg (State.setFlags _) (eraseUnread_wr8 o _ s)
  | inx p => exact .update (exec_inx · p) fun _ => by cases p <;> rfl
  | dcx p => exact .update (exec_dcx · p) fun _ => by cases p <;> rfl
  | dad p => exact .update (exec_dad · p) fun _ => by cases p <;> rfl
  | daa | cma | stc | cmc | rlc | rrc | ral | rar => exact .update (fun _ => rfl) fun _ => rfl
  | jmp a => exact .update (fun _ => rfl) fun _ => rfl
  | jcc cc a =>
    exact .update (exec_jcc · cc a) (.ite (c := fun s => condHolds cc s.flags = true) (f := fun s => s.setPc a)
      (g := fun s => s) (fun _ => .rfl) (fun _ => rfl) fun _ => rfl)
  | call a => exact .update (fun _ => rfl) (.of_commutes (eraseUnread_callTo a))
  | ccc cc a =>
    exact .update (exec_ccc · cc a) (.ite (c := fun s => condHolds cc s.flags = true)
      (f := fun s => (callTo a s).addClock s.config.takenExtra) (g := fun s => s) (fun _ => .rfl)
      (fun s => (UpdateIgnoresUnread.of_commutes (eraseUnread_callTo a) s :)) fun _ => rfl)
  | ret | retD9 => exact returnToCaller_ignoresUnread
  | rcc cc =>
    refine (IgnoresUnread.ite (c := fun s => condHolds cc s.flags = true) (fun _ => .rfl) ?_ ?_).congr (exec_rcc · cc)
    · exact returnToCaller_ignoresUnread.comp (g := fun s => s.addClock s.config.takenExtra) fun _ => rfl
    · exact UpdateIgnoresUnread.next (g := id) fun _ => rfl
  | rst n => exact .update (exec_rst · n) (.of_commutes (eraseUnread_callTo _))
  | pchl => exact .update (fun _ => rfl) fun _ => rfl
  | push p => exact .update (exec_push · p) (.of_commutes fun _ => eraseUnread_push16 _ _)
  | pushPsw => exact .update (fun _ => rfl) (.of_commutes fun _ => eraseUnread_push16 _ _)
  | pop p =>
    exact .readThen (fun s => (exec_pop s p).trans (orFault_pop16 s _)) (fun _ => rfl) fun _ _ => rfl
  | popPsw => exact .readThen (fun s => orFault_pop16 s _) (fun _ => rfl) fun _ _ => rfl
  | sphl | ei | di | hlt => exact .update (fun _ => rfl) fun _ => rfl
  | inp p => exact .readThen (fun _ => rfl) (fun _ => rfl) fun _ _ => rfl
  | out p =>
    intro s
    show mapNext _ (outputFromA p s) = mapNext _ (outputFromA p s.eraseUnread)
    unfold outputFromA writePort
    split_ifs <;> rfl
  | nop _ h => exact .update (exec_nop h) fun _ => rfl
  | undefined _ op h => exact .update (exec_undefined h) fun _ => rfl

/-! ### The step -/

theorem dispatch_ignoresUnread (op : Byte) : IgnoresUnread (dispatch op) := by
  cases hshape : opcodeMap op with
  | f1 i => exact (exec_ignoresUnread i).congr fun s => by simp only [dispatch, hshape]
  | f2 make =>
    refine (IgnoresUnread.orFault (x := fun s => readByte s s.pc) (fun _ => rfl) fun v =>
      (exec_ignoresUnread (make v)).comp (g := fun s => s.setPc (s.pc + 1)) fun _ => rfl).congr fun s => ?_
    simp only [dispatch, hshape]
    exact orFault_fetch8 s _
  | f3 make =>
    refine (IgnoresUnread.orFault (x := fun s => readByte s s.pc) (fun _ => rfl) fun lo =>
      IgnoresUnread.orFault (x := fun s => readByte s (s.pc + 1)) (fun _ => rfl) fun hi =>
        (exec_ignoresUnread (make (wordOf hi lo))).comp (g := fun s => s.setPc (s.pc + 1 + 1)) fun _ => rfl).congr
          fun s => ?_
    simp only [dispatch, hshape]
    exact orFault_fetch16 s _

/-- The counters that the fetch moves are erased. -/
theorem fetchExecute_ignoresUnread : IgnoresUnread fetchExecute :=
  (IgnoresUnread.orFault (x := fun s => readByte s s.pc) (fun _ => rfl) fun op =>
    (dispatch_ignoresUnread op).comp
      (g := fun s => (countInstruction (s.setPc (s.pc + 1))).addClock (s.cost op)) fun _ => rfl).congr
        fun s => orFault_fetch8 s _

theorem scanString_eraseUnread (s : State) (fuel : Nat) (addr : Word) :
    scanString s.eraseUnread fuel addr = scanString s fuel addr := by
  induction fuel generalizing addr with
  | zero => rfl
  | succ fuel ih =>
    simp only [scanString, ih]
    rfl

/-- What the console call prints goes to a stream, and what it prints depends on registers and memory. -/
theorem consoleCall_ignoresUnread : IgnoresUnread consoleCall := by
  intro s
  have hreg : ∀ r, s.eraseUnread.reg r = s.reg r := fun _ => rfl
  have hpair : s.eraseUnread.pair .de = s.pair .de := rfl
  simp only [consoleCall, hreg, hpair, scanString_eraseUnread]
  split
  · rfl
  · split
    · cases scanString s 65536 (s.pair .de) <;> rfl
    · rfl

theorem beforeFetch_ignoresUnread : IgnoresUnread beforeFetch :=
  .ite (c := fun s => atCallTrap s = true) (fun _ => .rfl) consoleCall_ignoresUnread
    (UpdateIgnoresUnread.next (g := id) fun _ => rfl)

theorem mapNext_eq_next {f : State → State} {r : Result} {u : State} :
    mapNext f r = .next u ↔ ∃ v, r = .next v ∧ f v = u := by
  cases r <;> simp [mapNext]

theorem mapNext_eq_fault {f : State → State} {r : Result} {x : Fault} : mapNext f r = .fault x ↔ r = .fault x := by
  cases r <;> simp [mapNext]

theorem mapNext_eq_refused {f : State → State} {r : Result} {x : Refusal} :
    mapNext f r = .refused x ↔ r = .refused x := by
  cases r <;> simp [mapNext]

/-- What goes before the fetch ends in the same way, and where it goes on the fetch does. -/
theorem step_ignoresUnread : IgnoresUnread step := by
  refine .ite (c := fun s => s.halted = true) (fun _ => .rfl) (UpdateIgnoresUnread.next (g := id) fun _ => rfl) ?_
  refine .ite (c := fun s => atExitTrap s = true) (fun _ => .rfl)
    (UpdateIgnoresUnread.next (g := State.setHalted true) fun _ => rfl) fun s => ?_
  have hbefore := beforeFetch_ignoresUnread s
  cases hb : beforeFetch s.eraseUnread with
  | next u =>
    rw [hb] at hbefore
    obtain ⟨v, hv, he⟩ := mapNext_eq_next.mp hbefore
    rw [hv]
    exact fetchExecute_ignoresUnread.of_eq he
  | fault f => rw [mapNext_eq_fault.mp (hbefore.trans (congrArg _ hb))]
  | refused r => rw [mapNext_eq_refused.mp (hbefore.trans (congrArg _ hb))]

/-- Settles O59: both steps agree with the step of the one erased state. -/
theorem countersAndOutputsInfluenceNothing : Obligations.CountersAndOutputsInfluenceNothing :=
  fun _ _ h => step_ignoresUnread.of_eq h

end Sys2Proof.Machine
end

section
/-! Data transfer (`40_data_transfer.md`): what a register write, a load and a store leave, and from these the moves. -/

namespace Sys2Proof.Machine

variable {s t : State} {i : Instr} {addr : Word}

/-! ### Register and pair writes -/

theorem writesReg_setReg (r : Reg8) (v : Byte) (s : State) : WritesReg r v s (s.setReg r v) :=
  ⟨State.reg_setReg_self s r v, fun _ hq => State.reg_setReg_of_ne s hq v⟩

theorem State.pairSp_setPairSp_self (p : PairSp) (v : Word) (s : State) : (s.setPairSp p v).pairSp p = v := by
  cases p with
  | sp => rfl
  | _ => exact wordOf_halves v

theorem State.pairSp_setPairSp_of_ne {p q : PairSp} (hq : q ≠ p) (v : Word) (s : State) :
    (s.setPairSp p v).pairSp q = s.pairSp q := by
  cases p <;> cases q <;> simp at hq <;> rfl

theorem writesPairSp_setPairSp (p : PairSp) (v : Word) (s : State) : WritesPairSp p v s (s.setPairSp p v) :=
  ⟨State.pairSp_setPairSp_self p v s, fun _ hq => State.pairSp_setPairSp_of_ne hq v s, by cases p <;> rfl,
    by cases p <;> rfl⟩

theorem State.reg_setPair_hl_of_ne {q : Reg8} (hl : q ≠ .l) (hh : q ≠ .h) (v : Word) (s : State) :
    (s.setPair .hl v).reg q = s.reg q := by
  cases q with
  | h => exact absurd rfl hh
  | l => exact absurd rfl hl
  | _ => rfl

/-- Settles O14: each is one write of a register or of a pair. -/
theorem registersAreMovedAndLoaded : Obligations.RegistersAreMovedAndLoaded := by
  refine fun s => ⟨fun dst src => ⟨encode_movRR dst src, _, exec_movRR s dst src, writesReg_setReg _ _ s, rfl⟩,
    fun dst v => ⟨encode_mviR dst v, _, exec_mviR s dst v, writesReg_setReg _ _ s, rfl⟩,
    fun p v => ⟨encode_lxi p v, _, exec_lxi s p v, writesPairSp_setPairSp p v s⟩⟩

/-! ### Loads -/

/-- A byte load reads its address and writes one register. -/
theorem byteLoad {dst : Reg8} (hexec : exec i s = orFault (readByte s addr) fun v => .next (s.setReg dst v)) :
    (CanRead s addr → ∃ t v, exec i s = .next t ∧ readByte s addr = .ok v ∧ WritesReg dst v s t ∧ SameButRegs s t) ∧
      (¬ CanRead s addr → exec i s = .fault (.unmappedRead addr)) := by
  refine ⟨fun h => ?_, fun h => by rw [hexec, readByte_unmapped h, orFault_error]⟩
  obtain ⟨v, hv⟩ := readByte_ok h
  exact ⟨s.setReg dst v, v, by rw [hexec, hv, orFault_ok], hv, writesReg_setReg dst v s, rfl⟩

/-- Settles O15: the three forms are byte loads, each with its address. -/
theorem byteLoadsReadMemory : Obligations.ByteLoadsReadMemory := by
  rintro i dst addr s (⟨rfl, rfl, -⟩ | ⟨rfl, p, rfl, rfl, -⟩ | ⟨rfl, rfl, -⟩)
  · exact byteLoad (exec_movRM s dst)
  · exact byteLoad (exec_ldax s p)
  · exact byteLoad rfl

/-- What follows a word read stops at the first of its two bytes that cannot be read. -/
theorem orFault_readWord_fault {k : Word → Result} :
    (¬ CanRead s addr → orFault (readWord s addr) k = .fault (.unmappedRead addr)) ∧
      (CanRead s addr → ¬ CanRead s (addr + 1) →
        orFault (readWord s addr) k = .fault (.unmappedRead (addr + 1))) :=
  ⟨fun h => by rw [readWord_fault_low h, orFault_error], fun h h' => by rw [readWord_fault_high h h', orFault_error]⟩

/-! ### Stores -/

theorem sameButStore_writeByte (addr : Word) (v : Byte) (s : State) : SameButStore s (writeByte addr v s) := by
  unfold SameButStore
  rw [writeByte_setStore]
  rfl

theorem sameButStore_writeWord (addr v : Word) (s : State) : SameButStore s (writeWord addr v s) := by
  unfold SameButStore
  rw [writeWord_setStore]
  rfl

/-- An instruction that is one byte store. -/
theorem byteStore {v : Byte} (hs : s.Inv) (hexec : exec i s = .next (writeByte addr v s)) :
    ∃ t, exec i s = .next t ∧ ByteStored addr v s t ∧ SameButStore s t :=
  ⟨_, hexec, byteStored_writeByte hs, sameButStore_writeByte addr v s⟩

/-- Settles O16: the four forms are byte stores, each with its address. -/
theorem byteStoresWriteMemory : Obligations.ByteStoresWriteMemory :=
  fun s hs => ⟨fun src => ⟨encode_movMR src, byteStore hs (exec_movMR s src)⟩, fun _ => ⟨rfl, byteStore hs rfl⟩,
    fun p => ⟨encode_stax p, byteStore hs (exec_stax s p)⟩, fun _ => ⟨rfl, byteStore hs rfl⟩⟩

/-! ### HL and memory -/

/-- Settles O17: L and H are the halves of the word read, and the word stored is HL. -/
theorem wordTransfersMoveHl : Obligations.WordTransfersMoveHl := by
  intro a s hs
  refine ⟨fun ⟨hlo, hhi⟩ => ?_, orFault_readWord_fault.1, orFault_readWord_fault.2,
    ⟨_, rfl, wordStored_writeWord hs, sameButStore_writeWord _ _ s⟩⟩
  obtain ⟨lo, hlo⟩ := readByte_ok hlo
  obtain ⟨hi, hhi⟩ := readByte_ok hhi
  refine ⟨s.setPair .hl (wordOf hi lo), lo, hi, ?_, hlo, hhi, lowByte_wordOf hi lo, highByte_wordOf hi lo,
    fun q hl hh => State.reg_setPair_hl_of_ne hl hh _ s, rfl⟩
  show orFault (readWord s a) _ = _
  rw [readWord_of_bytes hlo hhi, orFault_ok]

/-- Settles O18: each pair is written with the halves of the other. -/
theorem xchgSwapsDeAndHl : Obligations.XchgSwapsDeAndHl := by
  refine fun s => ⟨rfl, _, rfl, ?_, ?_, ?_, ?_, rfl, rfl, rfl, rfl⟩
  · exact highByte_wordOf (s.reg .d) (s.reg .e)
  · exact lowByte_wordOf (s.reg .d) (s.reg .e)
  · exact highByte_wordOf (s.reg .h) (s.reg .l)
  · exact lowByte_wordOf (s.reg .h) (s.reg .l)

/-- Settles O19: the word is read before HL is stored over it. -/
theorem xthlExchangesWithTheStack : Obligations.XthlExchangesWithTheStack := by
  intro s hs
  refine ⟨fun ⟨hlo, hhi⟩ => ?_, orFault_readWord_fault.1, orFault_readWord_fault.2⟩
  obtain ⟨lo, hlo⟩ := readByte_ok hlo
  obtain ⟨hi, hhi⟩ := readByte_ok hhi
  refine ⟨(writeWord s.sp s.hl s).setPair .hl (wordOf hi lo), lo, hi, ?_, hlo, hhi, lowByte_wordOf hi lo,
    highByte_wordOf hi lo, fun q hl hh => ?_, (wordStored_writeWord hs).congr rfl rfl, ?_⟩
  · show orFault (readWord s s.sp) _ = _
    rw [readWord_of_bytes hlo hhi, orFault_ok]
  · rw [State.reg_setPair_hl_of_ne hl hh, writeWord_setStore]
    rfl
  · rw [writeWord_setStore]
    rfl

end Sys2Proof.Machine
end

section
/-! Arithmetic and logic (`41_arithmetic.md`, `42_logical.md`): the carry detector and the flag updates in integers, and
from them what each instruction of the group leaves. -/

namespace Sys2Proof.Machine

variable {s t : State} {i : Instr}

/-! ### The carry detector and Z S P -/

theorem byte_eq_zero_iff (r : Byte) : (r == 0) = true ↔ r.toNat = 0 := by
  rw [beq_iff_eq, ← BitVec.toNat_inj]
  rfl

theorem getLsbD_seven_iff (r : Byte) : r.getLsbD 7 = true ↔ 128 ≤ r.toNat := by
  have := r.isLt
  rw [BitVec.getLsbD, Nat.testBit_eq_decide_div_mod_eq, decide_eq_true_eq]
  omega

/-- `onesCount` counts the 1 bits. -/
theorem onesCount_eq_countP (r : Byte) : onesCount r = (List.range 8).countP fun k => r.getLsbD k := by
  have hbit : ∀ b : Bool, b.toNat = if b = true then 1 else 0 := fun b => by cases b <;> rfl
  simp only [onesCount, hbit, List.range_succ, List.range_zero, List.nil_append, List.countP_append,
    List.countP_singleton]

theorem zspAre_setZsp (r : Byte) (f : Flags) : ZspAre (f.setZsp r) r := by
  refine ⟨byte_eq_zero_iff r, getLsbD_seven_iff r, ?_⟩
  show (onesCount r % 2 == 0) = true ↔ _
  rw [beq_iff_eq, onesCount_eq_countP]

/-- Z, S and P alone decide `ZspAre`. -/
theorem ZspAre.congr {f g : Flags} {r : Byte} (h : ZspAre f r) (hz : g.z = f.z) (hs : g.s = f.s) (hp : g.p = f.p) :
    ZspAre g r := by
  unfold ZspAre at *
  rwa [hz, hs, hp]

/-- The carry into a position: the bit of the sum is not that of the two operands put together. -/
theorem carryAt_iff (a b : Byte) (cin : Bool) (pos : Nat) :
    carryAt a b cin pos = true ↔
      (a.toNat + b.toNat + cin.toNat) / 2 ^ pos % 2 ≠ (a.toNat / 2 ^ pos % 2 + b.toNat / 2 ^ pos % 2) % 2 := by
  unfold carryAt
  rw [Nat.testBit_xor, Nat.testBit_xor]
  simp only [Nat.testBit_eq_decide_div_mod_eq]
  rcases Nat.mod_two_eq_zero_or_one ((a.toNat + b.toNat + cin.toNat) / 2 ^ pos) with h | h <;>
    rcases Nat.mod_two_eq_zero_or_one (a.toNat / 2 ^ pos) with ha | ha <;>
      rcases Nat.mod_two_eq_zero_or_one (b.toNat / 2 ^ pos) with hb | hb <;> simp [h, ha, hb]

theorem carryAt_eight (a b : Byte) (cin : Bool) :
    carryAt a b cin 8 = true ↔ 256 ≤ a.toNat + b.toNat + cin.toNat := by
  have := a.isLt
  have := b.isLt
  have := cin.toNat_le
  rw [carryAt_iff]
  omega

theorem carryAt_four (a b : Byte) (cin : Bool) :
    carryAt a b cin 4 = true ↔ 16 ≤ a.toNat % 16 + b.toNat % 16 + cin.toNat := by
  have := cin.toNat_le
  rw [carryAt_iff]
  omega

/-! ### The two flag updates -/

theorem setFlagsAdd_result (a b : Byte) (cin : Bool) (mode : FlagMode) (f : Flags) :
    (setFlagsAdd a b cin mode f).1 = BitVec.ofNat 8 (a.toNat + b.toNat + cin.toNat) := by cases mode <;> rfl

theorem setFlagsAdd_zsp (a b : Byte) (cin : Bool) (mode : FlagMode) (f : Flags) :
    ZspAre (setFlagsAdd a b cin mode f).2 (setFlagsAdd a b cin mode f).1 := by
  cases mode <;> exact zspAre_setZsp (BitVec.ofNat 8 (a.toNat + b.toNat + cin.toNat)) f

/-- Settles O20: the carry detector at its two positions, and the update mode by mode. -/
theorem flagPrimitives : Obligations.FlagPrimitives := by
  refine fun a b cin f mode => ⟨carryAt_eight a b cin, carryAt_four a b cin, ?_, setFlagsAdd_zsp a b cin mode f, ?_, ?_⟩
  · rw [setFlagsAdd_result, BitVec.toNat_ofNat]
  · cases mode <;> rfl
  · cases mode <;> rfl

theorem complement_toNat (b : Byte) : (b ^^^ 0xFF).toNat = 255 - b.toNat := by
  rw [show (0xFF : Byte) = BitVec.allOnes 8 from rfl, BitVec.xor_allOnes, BitVec.toNat_not]

theorem not_toNat (b : Bool) : (!b).toNat = 1 - b.toNat := by cases b <;> rfl

/-- The addition of the complement is the subtraction. -/
theorem setFlagsSub_result (a b : Byte) (bin : Bool) (mode : FlagMode) (f : Flags) :
    (setFlagsSub a b bin mode f).1 = a - b - BitVec.ofNat 8 bin.toNat := by
  have hsum : (setFlagsSub a b bin mode f).1 = BitVec.ofNat 8 (a.toNat + (b ^^^ 0xFF).toNat + (!bin).toNat) := by
    cases mode <;> rfl
  have := b.isLt
  have := bin.toNat_le
  rw [hsum, complement_toNat, not_toNat]
  apply BitVec.eq_of_toNat_eq
  rw [BitVec.toNat_ofNat, BitVec.toNat_sub, BitVec.toNat_sub, BitVec.toNat_ofNat]
  omega

theorem setFlagsSub_zsp (a b : Byte) (bin : Bool) (mode : FlagMode) (f : Flags) :
    ZspAre (setFlagsSub a b bin mode f).2 (setFlagsSub a b bin mode f).1 := by
  have hadd := setFlagsAdd_zsp a (b ^^^ 0xFF) (!bin) mode f
  cases mode <;> exact hadd

/-- AC is not inverted: it says that no borrow came out of the low nibble (`41_arithmetic.md` R162). -/
theorem carryAt_four_complement (a b : Byte) (bin : Bool) :
    carryAt a (b ^^^ 0xFF) (!bin) 4 = true ↔ b.toNat % 16 + bin.toNat ≤ a.toNat % 16 := by
  have := b.isLt
  have := bin.toNat_le
  rw [carryAt_four, complement_toNat, not_toNat]
  omega

theorem setFlagsSub_both (a v : Byte) (bin : Bool) (f : Flags) :
    SubtractFlagsAre (setFlagsSub a v bin .both f).2 a v bin := by
  refine ⟨?_, ?_, carryAt_four_complement a v bin⟩
  · rw [← setFlagsSub_result a v bin .both f]
    exact setFlagsSub_zsp a v bin .both f
  · have := v.isLt
    show (!carryAt a (v ^^^ 0xFF) (!bin) 8) = true ↔ _
    have := bin.toNat_le
    rw [Bool.not_eq_true', ← Bool.not_eq_true, carryAt_eight, complement_toNat, not_toNat]
    omega

/-! ### The ALU group -/

/-- A write of a register and of the flags. -/
theorem writesReg_setReg_setFlags (r : Reg8) (v : Byte) (f : Flags) (s : State) :
    WritesReg r v s ((s.setReg r v).setFlags f) := writesReg_setReg r v s

theorem sameButRegsFlags_setReg_setFlags (r : Reg8) (v : Byte) (f : Flags) (s : State) :
    SameButRegsFlags s ((s.setReg r v).setFlags f) := rfl

/-- What an ALU instruction leaves, whatever its operand's form. -/
theorem exec_aluSource_next {op : AluOp} {v r : Byte} {f : Flags} (h : AluSource op i s v)
    (hr : aluFun op (s.reg .a) v s.flags = (r, f)) : exec i s = .next ((s.setReg .a r).setFlags f) := by
  rw [exec_of_aluSource h, applyToAImm, hr]

theorem addsToA_setFlagsAdd (v : Byte) (cin : Bool) (s : State) :
    AddsToA v cin s ((s.setReg .a (setFlagsAdd (s.reg .a) v cin .both s.flags).1).setFlags
      (setFlagsAdd (s.reg .a) v cin .both s.flags).2) := by
  obtain ⟨ha, hother⟩ := writesReg_setReg .a (setFlagsAdd (s.reg .a) v cin .both s.flags).1 s
  refine ⟨?_, hother, setFlagsAdd_zsp _ _ _ _ _, carryAt_eight _ _ _, carryAt_four _ _ _, rfl⟩
  rw [State.reg_setFlags, ha, setFlagsAdd_result, BitVec.toNat_ofNat]

/-- Settles O21: both are the additive update in mode 1, without and with the carry. -/
theorem addInstructionsAdd : Obligations.AddInstructionsAdd :=
  fun _ s v => ⟨fun h => ⟨_, exec_aluSource_next h rfl, addsToA_setFlagsAdd v false s⟩,
    fun h => ⟨_, exec_aluSource_next h rfl, addsToA_setFlagsAdd v s.flags.cy s⟩⟩

theorem subtractsFromA_setFlagsSub (v : Byte) (bin : Bool) (s : State) :
    SubtractsFromA v bin s ((s.setReg .a (setFlagsSub (s.reg .a) v bin .both s.flags).1).setFlags
      (setFlagsSub (s.reg .a) v bin .both s.flags).2) := by
  refine ⟨?_, setFlagsSub_both _ _ _ _, rfl⟩
  rw [← setFlagsSub_result (s.reg .a) v bin .both s.flags]
  exact writesReg_setReg_setFlags _ _ _ s

/-- Settles O22: both are the subtractive update in mode 1, without and with the borrow. -/
theorem subtractInstructionsSubtract : Obligations.SubtractInstructionsSubtract :=
  fun _ s v => ⟨fun h => ⟨_, exec_aluSource_next h rfl, subtractsFromA_setFlagsSub v false s⟩,
    fun h => ⟨_, exec_aluSource_next h rfl, subtractsFromA_setFlagsSub v s.flags.cy s⟩⟩

/-- Settles O23: A is written with what it held. -/
theorem compareSetsFlagsOnly : Obligations.CompareSetsFlagsOnly :=
  fun _ _ _ h => ⟨_, exec_aluSource_next h rfl, setFlagsSub_both _ _ _ _, rfl⟩

/-- The bitwise operations write A and clear both carries. -/
theorem exec_logical {op : AluOp} {v r : Byte} (h : AluSource op i s v)
    (hr : aluFun op (s.reg .a) v s.flags = (r, logicFlags r s.flags)) :
    ∃ t, exec i s = .next t ∧ WritesReg .a r s t ∧ ZspAre t.flags r ∧ t.flags.cy = false ∧ t.flags.ac = false ∧
      SameButRegsFlags s t := by
  refine ⟨_, exec_aluSource_next h hr, writesReg_setReg_setFlags _ _ _ s, ?_, rfl, rfl, rfl⟩
  have hzsp := setFlagsAdd_zsp r 0 false .clearBoth s.flags
  rwa [setFlagsAdd_result, show BitVec.ofNat 8 (r.toNat + (0 : Byte).toNat + false.toNat) = r by simp] at hzsp

/-- Settles O28: three operations with one flag update. -/
theorem logicalInstructionsClearCarries : Obligations.LogicalInstructionsClearCarries := by
  rintro i s v r (⟨h, rfl⟩ | ⟨h, rfl⟩ | ⟨h, rfl⟩)
  · exact exec_logical h rfl
  · exact exec_logical h rfl
  · exact exec_logical h rfl

end Sys2Proof.Machine
end

section
/-! INR, DCR, the 16-bit arithmetic, DAA, the rotates and the carry instructions (`41_arithmetic.md` R178 to R188,
`42_logical.md` R200 to R207). -/

namespace Sys2Proof.Machine

variable {s t : State}

/-! ### INR and DCR -/

/-- What INR makes of a byte and the flags. -/
theorem increment_result (v : Byte) (f : Flags) : (setFlagsAdd v 1 false .auxOnly f).1 = v + 1 := by
  rw [setFlagsAdd_result]
  apply BitVec.eq_of_toNat_eq
  simp [BitVec.toNat_add]

theorem increment_zsp (v : Byte) (f : Flags) : ZspAre (setFlagsAdd v 1 false .auxOnly f).2 (v + 1) := by
  rw [← increment_result v f]
  exact setFlagsAdd_zsp v 1 false .auxOnly f

theorem increment_ac (v : Byte) (f : Flags) :
    (setFlagsAdd v 1 false .auxOnly f).2.ac = true ↔ v.toNat % 16 = 15 := by
  refine (carryAt_four v 1 false).trans ?_
  show 16 ≤ v.toNat % 16 + 1 + 0 ↔ _
  omega

/-- What DCR makes of a byte and the flags. -/
theorem decrement_result (v : Byte) (f : Flags) : (setFlagsSub v 1 false .auxOnly f).1 = v - 1 := by
  rw [setFlagsSub_result]
  simp

theorem decrement_zsp (v : Byte) (f : Flags) : ZspAre (setFlagsSub v 1 false .auxOnly f).2 (v - 1) := by
  rw [← decrement_result v f]
  exact setFlagsSub_zsp v 1 false .auxOnly f

theorem decrement_ac (v : Byte) (f : Flags) :
    (setFlagsSub v 1 false .auxOnly f).2.ac = false ↔ v.toNat % 16 = 0 := by
  rw [← Bool.not_eq_true]
  refine (not_congr (carryAt_four_complement v 1 false)).trans ?_
  show ¬ (1 + 0 ≤ v.toNat % 16) ↔ _
  omega

/-- INR and DCR of M: the byte read is stored again, changed. -/
theorem exec_inr_m {v : Byte} (h : readByte s s.hl = .ok v) :
    exec (.inr .m) s = .next ((writeByte s.hl (v + 1) s).setFlags (setFlagsAdd v 1 false .auxOnly s.flags).2) := by
  rw [exec_inr, incrementByte, show rd8 .m s = .ok v from h, orFault_ok, ← increment_result v s.flags]
  rfl

theorem exec_dcr_m {v : Byte} (h : readByte s s.hl = .ok v) :
    exec (.dcr .m) s = .next ((writeByte s.hl (v - 1) s).setFlags (setFlagsSub v 1 false .auxOnly s.flags).2) := by
  rw [exec_dcr, decrementByte, show rd8 .m s = .ok v from h, orFault_ok, ← decrement_result v s.flags]
  rfl

theorem exec_inr_reg (r : Reg8) (s : State) :
    exec (.inr (.reg r)) s =
      .next ((s.setReg r (s.reg r + 1)).setFlags (setFlagsAdd (s.reg r) 1 false .auxOnly s.flags).2) := by
  rw [exec_inr, ← increment_result (s.reg r) s.flags]
  rfl

theorem exec_dcr_reg (r : Reg8) (s : State) :
    exec (.dcr (.reg r)) s =
      .next ((s.setReg r (s.reg r - 1)).setFlags (setFlagsSub (s.reg r) 1 false .auxOnly s.flags).2) := by
  rw [exec_dcr, ← decrement_result (s.reg r) s.flags]
  rfl

/-- A byte store with new flags changes the flags and the store only. -/
theorem writeByte_setFlags_frame (addr : Word) (v : Byte) (f : Flags) (s : State) :
    (((writeByte addr v s).setFlags f).setFlags s.flags).setStore s.store = s := by
  rw [writeByte_setStore]
  rfl

/-- Settles O24: the additive update of the operand by 1 in mode 3. -/
theorem inrIncrementsAndKeepsCarry : Obligations.InrIncrementsAndKeepsCarry := by
  intro s v hs
  refine ⟨fun r hr => ?_, fun hv => ?_⟩
  · subst hr
    exact ⟨encode_inr (.reg r), _, exec_inr_reg r s, writesReg_setReg_setFlags _ _ _ s, increment_zsp (s.reg r) s.flags,
      increment_ac (s.reg r) s.flags, rfl, sameButRegsFlags_setReg_setFlags _ _ _ s⟩
  · exact ⟨_, exec_inr_m hv, (byteStored_writeByte hs).congr rfl rfl, increment_zsp v s.flags, increment_ac v s.flags,
      rfl, writeByte_setFlags_frame _ _ _ s⟩

/-- Settles O25: the subtractive update of the operand by 1 in mode 3. -/
theorem dcrDecrementsAndKeepsCarry : Obligations.DcrDecrementsAndKeepsCarry := by
  intro s v hs
  refine ⟨fun r hr => ?_, fun hv => ?_⟩
  · subst hr
    exact ⟨_, exec_dcr_reg r s, writesReg_setReg_setFlags _ _ _ s, decrement_zsp (s.reg r) s.flags,
      decrement_ac (s.reg r) s.flags, setFlagsSub_auxOnly_cy (s.reg r) 1 false s.flags,
      sameButRegsFlags_setReg_setFlags _ _ _ s⟩
  · exact ⟨_, exec_dcr_m hv, (byteStored_writeByte hs).congr rfl rfl, decrement_zsp v s.flags, decrement_ac v s.flags,
      setFlagsSub_auxOnly_cy v 1 false s.flags, writeByte_setFlags_frame _ _ _ s⟩

/-! ### Pairs -/

theorem State.hl_setPair_hl (v : Word) (s : State) : (s.setPair .hl v).hl = v := wordOf_halves v

/-- The carry out of bit 15 of a sum of two words. -/
theorem testBit_sixteen_iff (x y : Word) : (x.toNat + y.toNat).testBit 16 = true ↔ 65536 ≤ x.toNat + y.toNat := by
  have := x.isLt
  have := y.isLt
  rw [Nat.testBit_eq_decide_div_mod_eq, decide_eq_true_eq]
  omega

/-- Settles O26: one pair is written, and DAD writes HL and CY. -/
theorem pairArithmetic : Obligations.PairArithmetic := by
  intro p s
  refine ⟨⟨_, exec_inx s p, writesPairSp_setPairSp p _ s⟩, ⟨_, exec_dcx s p, writesPairSp_setPairSp p _ s⟩,
    _, exec_dad s p, ?_, fun q hh hl => State.reg_setPair_hl_of_ne hl hh _ s, testBit_sixteen_iff _ _, rfl, rfl, rfl,
    rfl, rfl⟩
  exact (congrArg BitVec.toNat (State.hl_setPair_hl _ s)).trans (BitVec.toNat_ofNat _ 16)

/-! ### DAA -/

/-- The first correction. -/
theorem daaLow_eq (a : Byte) (f : Flags) :
    (a.toNat % 16 > 9 ∨ f.ac = true → daaLow a f = 6) ∧ (¬ (a.toNat % 16 > 9 ∨ f.ac = true) → daaLow a f = 0) := by
  have hcond : (decide (a.toNat % 16 > 9) || f.ac) = true ↔ a.toNat % 16 > 9 ∨ f.ac = true := by simp
  unfold daaLow
  exact ⟨fun h => if_pos (hcond.mpr h), fun h => if_neg (mt hcond.mp h)⟩

/-- The second test on the untruncated sum, in its form on the nibbles of A (`41_arithmetic.md` R188). -/
theorem daaHigh_iff (a : Byte) (f : Flags) :
    daaHigh a f = true ↔
      f.cy = true ∨ a.toNat / 16 > 9 ∨ (a.toNat / 16 ≥ 9 ∧ a.toNat % 16 > 9) := by
  have hlow := daaLow_eq a f
  have hsum : (a.toNat + daaLow a f) / 16 > 9 ↔ a.toNat / 16 > 9 ∨ (a.toNat / 16 ≥ 9 ∧ a.toNat % 16 > 9) := by
    by_cases h : a.toNat % 16 > 9 ∨ f.ac = true
    · rw [hlow.1 h]
      omega
    · rw [hlow.2 h]
      omega
  unfold daaHigh
  rw [Bool.or_eq_true, decide_eq_true_eq, hsum, or_comm]

/-- The correction that DAA adds. -/
def daaCorrection (a : Byte) (f : Flags) : Nat := daaLow a f + if daaHigh a f then 0x60 else 0

theorem daaCorrection_lt (a : Byte) (f : Flags) : daaCorrection a f < 256 := by
  unfold daaCorrection daaLow
  split <;> split <;> decide

theorem daaCorrection_toNat (a : Byte) (f : Flags) :
    (BitVec.ofNat 8 (daaCorrection a f)).toNat = daaCorrection a f := by
  rw [BitVec.toNat_ofNat, Nat.mod_eq_of_lt (daaCorrection_lt a f)]

theorem daaResult_eq (a : Byte) (f : Flags) :
    daaResult a f =
      setFlagsAdd a (BitVec.ofNat 8 (daaCorrection a f)) false .auxOnly { f with cy := f.cy || daaHigh a f } := rfl

theorem daaResult_toNat (a : Byte) (f : Flags) : (daaResult a f).1.toNat = (a.toNat + daaCorrection a f) % 256 := by
  rw [daaResult_eq, setFlagsAdd_result, BitVec.toNat_ofNat, daaCorrection_toNat]
  rfl

/-- Settles O27: the two tests choose the correction, and one addition of it gives the result and AC. -/
theorem daaCorrects : Obligations.DaaCorrects := by
  intro s a low high
  obtain ⟨hlow, hnotLow⟩ := daaLow_eq (s.reg .a) s.flags
  have hhigh : daaHigh (s.reg .a) s.flags = true ↔ high := daaHigh_iff (s.reg .a) s.flags
  obtain ⟨hreg, hother⟩ := writesReg_setReg .a (daaResult (s.reg .a) s.flags).1 s
  have hcorr : ∀ b, daaHigh (s.reg .a) s.flags = b →
      daaCorrection (s.reg .a) s.flags = daaLow (s.reg .a) s.flags + if b then 0x60 else 0 :=
    fun b hb => by rw [daaCorrection, hb]
  refine ⟨_, daaCorrection (s.reg .a) s.flags, rfl, fun hl hh => ?_, fun hl hh => ?_, fun hl hh => ?_, fun hl hh => ?_,
    ?_, hother, setFlagsAdd_zsp _ _ _ _ _, ?_, ?_, rfl⟩
  · rw [hcorr true (hhigh.mpr hh), hlow hl]; rfl
  · rw [hcorr false (Bool.eq_false_iff.mpr (mt hhigh.mp hh)), hlow hl]; rfl
  · rw [hcorr true (hhigh.mpr hh), hnotLow hl]; rfl
  · rw [hcorr false (Bool.eq_false_iff.mpr (mt hhigh.mp hh)), hnotLow hl]; rfl
  · exact (congrArg BitVec.toNat hreg).trans (daaResult_toNat _ _)
  · show (s.flags.cy || daaHigh (s.reg .a) s.flags) = true ↔ high
    rw [Bool.or_eq_true, hhigh]
    exact or_iff_right_of_imp Or.inl
  · refine (carryAt_four (s.reg .a) (BitVec.ofNat 8 (daaCorrection (s.reg .a) s.flags)) false).trans ?_
    rw [daaCorrection_toNat]
    rfl

/-! ### Rotates -/

theorem rotateLeft_bit (a : Byte) (into : Bool) {k : Nat} (hk : k < 7) :
    ((a <<< 1) ||| BitVec.ofNat 8 into.toNat).getLsbD (k + 1) = a.getLsbD k := by
  interval_cases k <;> cases into <;> simp

theorem rotateLeft_bit_zero (a : Byte) (into : Bool) :
    ((a <<< 1) ||| BitVec.ofNat 8 into.toNat).getLsbD 0 = into := by
  cases into <;> simp

theorem rotateRight_bit (a : Byte) (into : Bool) {k : Nat} (hk : k < 7) :
    ((a >>> 1) ||| (BitVec.ofNat 8 into.toNat <<< 7)).getLsbD k = a.getLsbD (k + 1) := by
  interval_cases k <;> cases into <;> simp

theorem rotateRight_bit_seven (a : Byte) (into : Bool) :
    ((a >>> 1) ||| (BitVec.ofNat 8 into.toNat <<< 7)).getLsbD 7 = into := by
  cases into <;> simp

/-- Settles O29: the rotates bit by bit, to the left and to the right. -/
theorem rotatesAndCarryInstructions : Obligations.RotatesAndCarryInstructions := by
  refine fun s => ⟨⟨⟨_, rfl, ?_, rfl⟩, rfl, rfl⟩, _, _, _, _, ⟨rfl, rfl, rfl, rfl⟩, fun k hk => ?_, ?_,
    ⟨rfl, rfl, rfl, rfl⟩, ?_⟩
  · rw [← BitVec.xor_allOnes]
    exact writesReg_setReg .a _ s
  · exact ⟨rotateLeft_bit _ _ hk, rotateLeft_bit _ _ hk, rotateRight_bit _ _ hk, rotateRight_bit _ _ hk⟩
  · exact ⟨rotateLeft_bit_zero _ _, rotateRight_bit_seven _ _, rotateLeft_bit_zero _ _, rotateRight_bit_seven _ _⟩
  · rintro t (rfl | rfl | rfl | rfl) <;>
      exact ⟨(writesReg_setReg_setFlags .a _ _ s).2, sameButRegsFlags_setReg_setFlags _ _ _ s⟩

end Sys2Proof.Machine
end

section
/-! Control transfer, the stack and machine control (`43_control_transfer.md`, `44_stack_io_control.md`). -/

namespace Sys2Proof.Machine

variable {s t : State} {i : Instr}

/-! ### Conditions and jumps -/

/-- Settles O30. -/
theorem conditionsTestTheirFlag : Obligations.ConditionsTestTheirFlag := by
  intro f
  simp [condHolds]

theorem exec_jcc_taken {cc : Cond} (a : Word) (h : condHolds cc s.flags = true) :
    exec (.jcc cc a) s = .next (s.setPc a) := by
  rw [exec_jcc, jumpIf, if_pos h]

theorem exec_jcc_not_taken {cc : Cond} (a : Word) (h : condHolds cc s.flags = false) :
    exec (.jcc cc a) s = .next s := by
  rw [exec_jcc, jumpIf, if_neg (Bool.eq_false_iff.mp h)]

/-- Settles O31: taken and not taken. -/
theorem jumpsSetPcOnly : Obligations.JumpsSetPcOnly :=
  fun _ => ⟨fun _ => ⟨rfl, rfl⟩, ⟨rfl, rfl⟩, fun cc a => ⟨encode_jcc cc a, exec_jcc_taken a, exec_jcc_not_taken a⟩⟩

/-! ### Calls -/

theorem sameButSpStore_push16 (v : Word) (s : State) : SameButSpStore s (push16 v s) := by
  unfold SameButSpStore
  rw [push16_eq]
  rfl

theorem sameButPcSpStore_callTo (target : Word) (s : State) : SameButPcSpStore s (callTo target s) := by
  unfold SameButPcSpStore callTo
  rw [push16_eq]
  rfl

theorem exec_ccc_taken {cc : Cond} (a : Word) (h : condHolds cc s.flags = true) :
    exec (.ccc cc a) s = .next ((callTo a s).addClock s.config.takenExtra) := by
  rw [exec_ccc, callIf, if_pos h]

theorem exec_ccc_not_taken {cc : Cond} (a : Word) (h : condHolds cc s.flags = false) :
    exec (.ccc cc a) s = .next s := by
  rw [exec_ccc, callIf, if_neg (Bool.eq_false_iff.mp h)]

/-- The counter apart, added cycles change nothing. -/
theorem addClock_setClockCount (n : Nat) (c : BitVec 64) (s : State) :
    (s.addClock n).setClockCount c = s.setClockCount c := rfl

theorem callTo_setClockCount_self (target : Word) (s : State) :
    (callTo target s).setClockCount s.clockCount = callTo target s := by
  conv_lhs => rw [← callTo_clockCount target s]
  rfl

theorem restart_target_toNat (n : Fin 8) : (BitVec.ofNat 16 (8 * n)).toNat = 8 * n := by
  rw [BitVec.toNat_ofNat]
  omega

/-- Settles O32: all three are `callTo`, which a taken Ccc follows with its extra cycles. -/
theorem callsPushTheReturnAddress : Obligations.CallsPushTheReturnAddress := by
  intro s hs
  refine ⟨fun a => ⟨rfl, _, rfl, rfl, callTo_sp a s, wordStored_callTo hs, sameButPcSpStore_callTo a s⟩,
    fun n => ⟨encode_rst n, _, exec_rst s n, restart_target_toNat n, callTo_sp _ s, wordStored_callTo hs,
      sameButPcSpStore_callTo _ s⟩,
    fun cc a => ⟨encode_ccc cc a, fun h => ⟨_, exec_ccc_taken a h, rfl, callTo_sp a s, ?_, ?_, ?_⟩,
      exec_ccc_not_taken a⟩⟩
  · exact (wordStored_callTo (target := a) hs).congr rfl rfl
  · rw [State.addClock_clockCount, callTo_clockCount]
  · rw [addClock_setClockCount, callTo_setClockCount_self]
    exact sameButPcSpStore_callTo a s

/-! ### Pops and returns -/

/-- What follows a pop, where both bytes of the stack word can be read. -/
theorem orFault_pop16_of_bytes {lo hi : Byte} (hlo : readByte s s.sp = .ok lo) (hhi : readByte s (s.sp + 1) = .ok hi)
    (k : Word × State → Result) : orFault (pop16 s) k = k (wordOf hi lo, s.setSp (s.sp + 2)) := by
  rw [pop16_of_bytes hlo hhi, orFault_ok]

/-- What follows a pop stops at the first byte of the stack word that cannot be read. -/
theorem orFault_pop16_fault {k : Word × State → Result} :
    (¬ CanRead s s.sp → orFault (pop16 s) k = .fault (.unmappedRead s.sp)) ∧
      (CanRead s s.sp → ¬ CanRead s (s.sp + 1) → orFault (pop16 s) k = .fault (.unmappedRead (s.sp + 1))) := by
  rw [orFault_pop16]
  exact orFault_readWord_fault

theorem exec_rcc_taken {cc : Cond} (h : condHolds cc s.flags = true) :
    exec (.rcc cc) s = returnToCaller (s.addClock s.config.takenExtra) := by
  rw [exec_rcc, returnIf, if_pos h]

theorem exec_rcc_not_taken {cc : Cond} (h : condHolds cc s.flags = false) : exec (.rcc cc) s = .next s := by
  rw [exec_rcc, returnIf, if_neg (Bool.eq_false_iff.mp h)]

/-- Settles O33: the extra cycles of a taken return are counted before the pop, which does not see them. -/
theorem returnsPopPc : Obligations.ReturnsPopPc := by
  refine fun s => ⟨⟨rfl, encode_rcc⟩, fun lo hi hlo hhi => ⟨orFault_pop16_of_bytes hlo hhi _, fun cc hc => ?_⟩,
    fun cc hc => exec_rcc_not_taken hc, ?_⟩
  · rw [exec_rcc_taken hc]
    exact orFault_pop16_of_bytes (s := s.addClock s.config.takenExtra) hlo hhi _
  · rintro i (rfl | ⟨cc, rfl, hc⟩)
    · exact orFault_pop16_fault
    · rw [exec_rcc_taken hc]
      exact orFault_pop16_fault (s := s.addClock s.config.takenExtra)

/-- Settles O34: both are `push16`, which stores its word below SP. -/
theorem pushStoresTheWord : Obligations.PushStoresTheWord :=
  fun s hs => ⟨fun p => ⟨encode_push p, _, exec_push s p, push16_sp _ s, wordStored_push16 hs,
    sameButSpStore_push16 _ s⟩, rfl, _, rfl, push16_sp _ s, wordStored_push16 hs, sameButSpStore_push16 _ s⟩

theorem State.pair_setPair_self (p : RegPair) (v : Word) (s : State) : (s.setPair p v).pair p = v := by
  cases p <;> exact wordOf_halves v

theorem State.pair_setPair_of_ne {p q : RegPair} (hq : q ≠ p) (v : Word) (s : State) :
    (s.setPair p v).pair q = s.pair q := by
  cases p <;> cases q <;> simp at hq <;> rfl

theorem State.reg_a_setPair (p : RegPair) (v : Word) (s : State) : (s.setPair p v).reg .a = s.reg .a := by
  cases p <;> rfl

/-- Settles O35: both are `pop16` and a write of what was popped. -/
theorem popLoadsTheWord : Obligations.PopLoadsTheWord := by
  refine fun s => ⟨⟨encode_pop, rfl⟩, fun lo hi hlo hhi => ⟨fun p => ?_, ?_⟩, ?_⟩
  · exact ⟨_, (exec_pop s p).trans (orFault_pop16_of_bytes hlo hhi _), State.pair_setPair_self p _ _,
      fun q hq => State.pair_setPair_of_ne hq _ _, State.reg_a_setPair p _ _, rfl, rfl⟩
  · refine ⟨_, orFault_pop16_of_bytes hlo hhi _, ?_, ?_⟩
    · rw [highByte_wordOf]
      exact writesReg_setReg .a hi s
    · rw [lowByte_wordOf]
      exact ⟨rfl, rfl, rfl, rfl, rfl, rfl, rfl⟩
  · rintro i (⟨p, rfl⟩ | rfl)
    · rw [exec_pop]
      exact orFault_pop16_fault
    · exact orFault_pop16_fault

/-! ### A pop after a push -/

theorem Word.sub_two_add_one (v : Word) : v - 2 + 1 = v - 1 := by bv_omega

theorem Word.sub_two_add_two (v : Word) : v - 2 + 2 = v := by bv_omega

/-- The word that a push stored is read back, in any state with its store and SP, where both bytes were accepted. -/
theorem readWord_after_push16 {u : State} {v : Word} (hs : s.Inv) (hlow : CanWrite s (s.sp - 2))
    (hhigh : CanWrite s (s.sp - 1)) (hconfig : u.config = s.config) (hstore : u.store = (push16 v s).store)
    (hsp : u.sp = s.sp - 2) : readWord u u.sp = .ok v := by
  obtain ⟨-, hlo, -, hhi, -⟩ := (wordStored_push16 (v := v) hs).congr (u := u) (by rw [hconfig, push16_config]) hstore
  rw [← Word.sub_two_add_one] at hhigh
  rw [hsp, readWord_of_bytes (hlo _ rfl hlow) (hhi _ rfl hhigh), wordOf_halves]

theorem pop16_of_readWord {v : Word} (h : readWord s s.sp = .ok v) : pop16 s = .ok (v, s.setSp (s.sp + 2)) := by
  unfold pop16
  rw [h]

/-- Settles O37: the word is read back where it was stored, and SP comes back in any case. -/
theorem popAfterPushRestores : Obligations.PopAfterPushRestores := by
  intro v s hs
  have hsp : (push16 v s).sp + 2 = s.sp := by rw [push16_sp, Word.sub_two_add_two]
  refine ⟨fun hlow hhigh => ?_, fun r hr => ?_⟩
  · have hread := readWord_after_push16 (u := push16 v s) hs hlow hhigh (push16_config v s) rfl (push16_sp v s)
    exact ⟨_, pop16_of_readWord hread, hsp⟩
  · rw [(pop16_ok hr).2]
    exact hsp

/-- Settles O38: the word A:flags is read back, and unpacking undoes packing. -/
theorem pswRoundTrip : Obligations.PswRoundTrip := by
  intro s g f hs hlow hhigh
  have hread := readWord_after_push16 (v := wordOf (s.reg .a) (packFlags s.flags))
    (u := ((push16 (wordOf (s.reg .a) (packFlags s.flags)) s).setRegs g).setFlags f) hs hlow hhigh
    (push16_config _ s) rfl (push16_sp _ s)
  refine ⟨_, _, exec_pushPsw s, exec_popPsw_of_pop16 (pop16_of_readWord hread), highByte_wordOf _ _, ?_, ?_⟩
  · rw [State.setFlags_flags, lowByte_wordOf, unpackFlags_packFlags]
  · show (push16 _ s).sp + 2 = s.sp
    rw [push16_sp, Word.sub_two_add_two]

/-! ### Machine control -/

/-- Settles O39. -/
theorem sphlAndDi : Obligations.SphlAndDi := fun _ => ⟨⟨rfl, rfl⟩, rfl, rfl⟩

/-- Settles O40: each by its own meaning, the alias by that of RET. -/
theorem controlInstructionsAndAliases : Obligations.ControlInstructionsAndAliases :=
  fun s => ⟨fun _ h => exec_nop h s, rfl, rfl, fun _ _ hlo hhi => orFault_pop16_of_bytes hlo hhi _, rfl⟩

theorem encode_undefined {op : Byte} (h : (i, op) ∈ Instr.undefineds) : encode i = [op] := by
  simp only [Instr.undefineds, List.mem_cons, Prod.mk.injEq, List.not_mem_nil, or_false] at h
  rcases h with ⟨rfl, rfl⟩ | ⟨rfl, rfl⟩ | ⟨rfl, rfl⟩ | ⟨rfl, rfl⟩ <;> rfl

/-- Settles O41. -/
theorem undefinedOpcodesReport : Obligations.UndefinedOpcodesReport :=
  fun s _ _ h => ⟨exec_undefined h s, encode_undefined h⟩

end Sys2Proof.Machine
end

section
/-! The ports and the shift peripheral (`44_stack_io_control.md` R274, R275, `60_exceptions.md` R325). -/

namespace Sys2Proof.Machine

variable {s t : State} {p : Byte}

/-! ### Input -/

theorem readPort_bank (h : p.toNat < 3) (s : State) : readPort p s = .ok s.inPort[p.toNat] := by
  have h3 : p ≠ 3 := by rintro rfl; exact absurd h (by decide)
  unfold readPort
  rw [if_neg h3, dif_pos (by omega)]

theorem readPort_shifter (s : State) : readPort 3 s = .ok (shifterResult s) := rfl

theorem readPort_outside (h : 4 ≤ p.toNat) (s : State) : readPort p s = .error (.portRange .input p) := by
  have h3 : p ≠ 3 := by rintro rfl; exact absurd h (by decide)
  unfold readPort
  rw [if_neg h3, dif_neg (by omega)]

theorem shifterResult_toNat (s : State) :
    (shifterResult s).toNat = s.shiftReg.toNat / 2 ^ (8 - s.shiftOfs.toNat) % 256 := by
  rw [shifterResult, BitVec.toNat_setWidth, BitVec.toNat_ushiftRight, Nat.shiftRight_eq_div_pow]

theorem exec_inp {v : Byte} (h : readPort p s = .ok v) : exec (.inp p) s = .next (s.setReg .a v) := by
  show orFault (readPort p s) _ = _
  rw [h, orFault_ok]

/-- Settles O42: the bank, the shifter, and no port from 4 on. -/
theorem inReadsPorts : Obligations.InReadsPorts := by
  intro p s
  refine ⟨fun h => ⟨_, exec_inp (readPort_bank h s), writesReg_setReg .a _ s, rfl⟩, fun h => ?_, fun h => ?_⟩
  · obtain rfl : p = 3 := BitVec.eq_of_toNat_eq h
    obtain ⟨ha, hother⟩ := writesReg_setReg .a (shifterResult s) s
    exact ⟨_, exec_inp (readPort_shifter s), rfl, hother, by rw [ha, shifterResult_toNat]⟩
  · show orFault (readPort p s) _ = _
    rw [readPort_outside h, orFault_error]

/-! ### Output -/

theorem writePort_bank (h : p.toNat < 7) (h2 : p ≠ 2) (h4 : p ≠ 4) (v : Byte) (s : State) :
    writePort p v s = .ok (s.setOutPort ⟨p.toNat, h⟩ v) := by
  unfold writePort
  rw [if_neg h2, if_neg h4, dif_pos (by omega)]

theorem writePort_outside (h : 7 ≤ p.toNat) (v : Byte) (s : State) :
    writePort p v s = .error (.portRange .output p) := by
  have h2 : p ≠ 2 := by rintro rfl; exact absurd h (by decide)
  have h4 : p ≠ 4 := by rintro rfl; exact absurd h (by decide)
  unfold writePort
  rw [if_neg h2, if_neg h4, dif_neg (by omega)]

theorem exec_out {u : State} (h : writePort p (s.reg .a) s = .ok u) : exec (.out p) s = .next u := by
  show orFault (writePort p (s.reg .a) s) _ = _
  rw [h, orFault_ok]

/-- The new shift register: the byte on top, the old high byte below. -/
theorem shiftIn_toNat (r : BitVec 16) (v : Byte) :
    ((r >>> 8) ||| (v.setWidth 16 <<< 8)).toNat = v.toNat * 256 + r.toNat / 256 := by
  have hv := v.isLt
  have hr : r.toNat / 256 < 2 ^ 8 := by have := r.isLt; omega
  have hhigh : (v.setWidth 16 <<< 8).toNat = 2 ^ 8 * v.toNat := by
    rw [BitVec.toNat_shiftLeft, BitVec.toNat_setWidth, Nat.shiftLeft_eq]
    omega
  have hlow : (r >>> 8).toNat = r.toNat / 256 := by
    rw [BitVec.toNat_ushiftRight, Nat.shiftRight_eq_div_pow]
  rw [BitVec.toNat_or, hhigh, hlow, Nat.or_comm, ← Nat.two_pow_add_eq_or_of_lt hr, Nat.mul_comm]

/-- Settles O43: the offset, the shift register, one entry of the bank, and no port from 7 on. -/
theorem outWritesPorts : Obligations.OutWritesPorts := by
  intro p s
  refine ⟨fun h => ?_, fun h => ?_, fun h h2 h4 => ?_, fun h => ?_⟩
  · obtain rfl : p = 2 := BitVec.eq_of_toNat_eq h
    exact ⟨_, exec_out rfl, BitVec.toNat_setWidth 3 (s.reg .a), rfl⟩
  · obtain rfl : p = 4 := BitVec.eq_of_toNat_eq h
    exact ⟨_, exec_out rfl, shiftIn_toNat s.shiftReg (s.reg .a), rfl⟩
  · refine ⟨_, exec_out (writePort_bank h (ne_of_apply_ne _ h2) (ne_of_apply_ne _ h4) (s.reg .a) s), ?_,
      fun k hk hne => ?_, rfl⟩
    · simp
    · simp only [State.setOutPort_outPort]
      exact Vector.getElem_set_ne _ _ hne.symm
  · show orFault (writePort p (s.reg .a) s) _ = _
    rw [writePort_outside h, orFault_error]

/-- Settles O44: the two writes leave the two bytes in the register, and a shift to the right by 8 less the offset is
one to the left by the offset and then by a byte to the right. -/
theorem shifterShiftsTwoBytes : Obligations.ShifterShiftsTwoBytes := by
  intro s x y k
  obtain ⟨s1, h1, hreg1, -⟩ := (outWritesPorts 4 (s.setReg .a x)).2.1 rfl
  obtain ⟨s2, h2, hreg2, -⟩ := (outWritesPorts 4 (s1.setReg .a y)).2.1 rfl
  obtain ⟨s3, h3, hofs3, hframe3⟩ := (outWritesPorts 2 (s2.setReg .a k)).1 rfl
  obtain ⟨s4, h4, -, -, hresult⟩ := (inReadsPorts 3 s3).2.1 rfl
  refine ⟨s1, s2, s3, s4, h1, h2, h3, h4, ?_⟩
  have hreg3 := congrArg State.shiftReg hframe3
  rw [State.setShiftOfs_shiftReg, State.setReg_shiftReg] at hreg3
  have hbytes : s2.shiftReg.toNat = y.toNat * 256 + x.toNat := by
    simp only [State.reg_setReg_self, State.setReg_shiftReg] at hreg1 hreg2
    rw [hreg2, hreg1]
    have := x.isLt
    have := s.shiftReg.isLt
    omega
  have hpow : 2 ^ (8 - k.toNat % 8) * 2 ^ (k.toNat % 8) = 256 := by
    rw [← Nat.pow_add, Nat.sub_add_cancel (by omega)]
  rw [State.reg_setReg_self] at hofs3
  calc (s4.reg .a).toNat
    _ = (y.toNat * 256 + x.toNat) / 2 ^ (8 - k.toNat % 8) % 256 := by rw [hresult, hreg3, hbytes, hofs3]
    _ = (y.toNat * 256 + x.toNat) * 2 ^ (k.toNat % 8) / 256 % 256 := by
      rw [← Nat.mul_div_mul_right _ _ (Nat.two_pow_pos (k.toNat % 8)), hpow]

end Sys2Proof.Machine
end

section
/-! Interrupts, the host's calls and construction (`60_exceptions.md` R300 to R304, `20_memory.md` R62, R72,
`70_reset_and_hazards.md` R340). -/

namespace Sys2Proof.Machine

variable {s t : State}

/-! ### Interrupts -/

theorem interruptIdValid_iff (id : Nat) : interruptIdValid id = true ↔ id < 2 := by
  simp only [interruptIdValid, Bool.or_eq_true, beq_iff_eq]
  omega

theorem interrupt_delivered {id : Nat} (hid : id < 2) (hie : s.ie = true) :
    interrupt id s = .next (takeInterrupt id s) := by
  rw [interrupt, if_pos ((interruptIdValid_iff id).mpr hid), if_pos hie]

theorem interrupt_lost {id : Nat} (hid : id < 2) (hie : s.ie = false) : interrupt id s = .next s := by
  rw [interrupt, if_pos ((interruptIdValid_iff id).mpr hid), if_neg (Bool.eq_false_iff.mp hie)]

theorem interrupt_refused {id : Nat} (hid : 2 ≤ id) : interrupt id s = .refused (.interruptId id) := by
  rw [interrupt, if_neg (by rw [interruptIdValid_iff]; omega)]

@[simp] theorem takeInterrupt_ie (id : Nat) (s : State) : (takeInterrupt id s).ie = false := by
  simp [takeInterrupt]

@[simp] theorem takeInterrupt_sp (id : Nat) (s : State) : (takeInterrupt id s).sp = s.sp - 2 := by
  simp [takeInterrupt]

theorem takeInterrupt_pc_toNat {id : Nat} (hid : id < 2) (s : State) :
    (takeInterrupt id s).pc.toNat = 8 * (id + 1) := by
  rw [takeInterrupt, callTo_pc, interruptVector, BitVec.toNat_ofNat]
  omega

theorem takeInterrupt_clockCount (id : Nat) (s : State) :
    (takeInterrupt id s).clockCount = s.clockCount + BitVec.ofNat 64 (s.cost 0xF3) +
      BitVec.ofNat 64 (s.cost (if id = 0 then 0xCF else 0xD7)) := by
  rw [takeInterrupt, callTo_clockCount]
  rfl

theorem wordStored_takeInterrupt (id : Nat) (hs : s.Inv) : WordStored (s.sp - 2) s.pc s (takeInterrupt id s) :=
  (wordStored_callTo (s := ((s.setIe false).addClock (s.cost opcodeDi)).addClock (s.cost (interruptOpcode id)))
    hs).congr_left rfl rfl

/-- The frame of an interrupt is that of its call, with IE and `ClockCount` put back besides. -/
theorem takeInterrupt_frame (id : Nat) (s : State) :
    SameButPcSpStore s (((takeInterrupt id s).setIe s.ie).setClockCount s.clockCount) := by
  have hcall := sameButPcSpStore_callTo (interruptVector id)
    (((s.setIe false).addClock (s.cost opcodeDi)).addClock (s.cost (interruptOpcode id)))
  unfold SameButPcSpStore takeInterrupt at *
  generalize callTo _ _ = t at hcall ⊢
  exact congrArg (fun u : State => (u.setIe s.ie).setClockCount s.clockCount) hcall

/-- Settles O45: the entry is a call with IE clear and two costs counted, so a second request is lost. -/
theorem interruptsAreDeliveredOrLost : Obligations.InterruptsAreDeliveredOrLost :=
  fun id s hs => ⟨fun hid hie => ⟨_, interrupt_delivered hid hie, takeInterrupt_ie id s, takeInterrupt_pc_toNat hid s,
    takeInterrupt_sp id s, wordStored_takeInterrupt id hs, takeInterrupt_clockCount id s, takeInterrupt_frame id s,
    fun _ hagain => interrupt_lost hagain (takeInterrupt_ie id s)⟩, interrupt_lost, interrupt_refused⟩

/-- Settles O46: the entry is what the two opcodes do, in their order. -/
theorem interruptIsTwoExecutes : Obligations.InterruptIsTwoExecutes := by
  intro id s hid hie
  refine ⟨(s.addClock (s.cost 0xF3)).setIe false, rfl, (interrupt_delivered hid hie).trans ?_⟩
  match id, hid with
  | 0, _ => rfl
  | 1, _ => rfl

theorem exec_ret_of_readWord {v : Word} (h : readWord s s.sp = .ok v) :
    exec .ret s = .next ((s.setSp (s.sp + 2)).setPc v) := by
  show orFault (pop16 s) _ = _
  rw [pop16_of_readWord h, orFault_ok]

/-- Settles O47: the handler returns to the word that the entry pushed. -/
theorem returnFromInterruptGoesBack : Obligations.ReturnFromInterruptGoesBack := by
  intro id s g f hs hid hie hlow hhigh
  have hread := readWord_after_push16 (s := ((s.setIe false).addClock (s.cost opcodeDi)).addClock
    (s.cost (interruptOpcode id))) (v := s.pc) (u := ((takeInterrupt id s).setRegs g).setFlags f) hs hlow hhigh
    (takeInterrupt_config id s) rfl (takeInterrupt_sp id s)
  refine ⟨_, _, interrupt_delivered hid hie, exec_ret_of_readWord hread, rfl, ?_, takeInterrupt_ie id s⟩
  show (takeInterrupt id s).sp + 2 = s.sp
  rw [takeInterrupt_sp, Word.sub_two_add_two]

/-! ### Loads -/

/-- Settles O48: inside its contract a load is a bulk write of the store. -/
theorem loadFillsTheStore : Obligations.LoadFillsTheStore := by
  intro s addr buffer hs
  have hrange := loadInRange_iff s.config.mode addr buffer.length
  refine ⟨fun hfits harcade => ?_, fun hout => ?_⟩
  · refine ⟨_, if_pos (hrange.mpr ⟨hfits, harcade⟩), fun k hk => Memory.read_writeRun_inside hs hfits k hk,
      fun c hc => Memory.read_writeRun_outside _ hc, rfl⟩
  · refine if_neg fun h => ?_
    obtain ⟨hfits, harcade⟩ := hrange.mp h
    rcases hout with hout | ⟨hmode, hout⟩
    · omega
    · exact absurd (harcade hmode) (by omega)

/-! ### The mirror window -/

/-- In arcade mode the window names the cells 0x2000 lower (`20_memory.md` R62). -/
theorem sameCell_mirror {a : Word} (hmode : s.config.mode = .arcade) (hlow : 0x2000 ≤ a.toNat)
    (hhigh : a.toNat ≤ 0x23FF) : SameCell s (a + 0x2000) a := by
  have hsum : (a + 0x2000).toNat = a.toNat + 0x2000 := by
    rw [BitVec.toNat_add, show (0x2000 : Word).toNat = 0x2000 from rfl]
    omega
  unfold SameCell
  rw [hmode, resolve_arcade, resolve_arcade, hsum, if_neg (by omega), if_pos (by omega), if_pos (by omega),
    Nat.add_sub_cancel]

theorem readByte_of_sameCell {x y : Word} (h : SameCell s x y) (hy : CanRead s y) : readByte s x = readByte s y := by
  obtain ⟨c, hc⟩ := resolve_of_canRead hy
  rw [readByte_of_resolve hc, readByte_of_resolve (h.trans hc)]

/-- Settles O55: an address and its mirror name the same cell, so they read the same byte. -/
theorem arcadeMirrorReadsTheSameCell : Obligations.ArcadeMirrorReadsTheSameCell := by
  intro s a v hs hmode hlow hhigh
  have hmirror : SameCell s (a + 0x2000) a := sameCell_mirror hmode hlow hhigh
  have hwrite : CanWrite (s.setReg .a v) a := .inr ⟨hlow, by omega⟩
  refine ⟨readByte_of_sameCell hmirror (.inr (by omega)), _, rfl, ?_, ?_⟩
  · rw [State.reg_setReg_self]
    exact readByte_writeByte_of_same hs hwrite rfl
  · rw [State.reg_setReg_self]
    exact readByte_writeByte_of_same hs hwrite hmirror

/-! ### Construction and the host's writes -/

/-- Settles O49: field by field. -/
theorem constructionValues : Obligations.ConstructionValues := by
  refine fun cfg => ⟨fun r => by cases r <;> rfl, rfl, ?_, rfl, rfl, rfl, fun k hk => ?_, fun k hk => ?_, rfl, rfl, rfl,
    rfl, rfl, rfl, fun _ => rfl, rfl⟩
  · show resetPc cfg.mode = _
    cases cfg.mode <;> rfl
  · interval_cases k <;> rfl
  · interval_cases k <;> rfl

/-- Settles O50: the store after reset lists no cell. -/
theorem resetIsCanonical : Obligations.ResetIsCanonical := rfl

/-- Settles O60: each is one field update. -/
theorem hostWritesSetTheirFieldOnly : Obligations.HostWritesSetTheirFieldOnly := by
  refine fun s => ⟨fun i v => ⟨_, rfl, ?_, fun k hk => ?_, rfl⟩, rfl, rfl⟩
  · simp
  · simp only [State.setInPort_inPort]
    exact Vector.getElem_set_ne _ _ fun h => hk (Fin.ext h.symm)

end Sys2Proof.Machine
end
